-- ==== Sys2Proof/Word.lean ====
section
/-! DEFINITION. The words of the block: one byte is the only data unit any rule moves (R5, R63). -/

namespace Sys2Proof

/-- One data unit, `BYTE_W` = 8 (R5). -/
abbrev Byte := BitVec 8

/-- A bus address, `ADDR_W` = 7 (R5, R62). -/
abbrev BusAddr := BitVec 7

/-- A clock rate in Hz, `RATE_W` = 32 (R5, R210). -/
abbrev Rate := BitVec 32

/-- A value that crosses the host port: wide enough for every register of R52 (`A_RATE` is the widest). -/
abbrev HostWord := BitVec 32

end Sys2Proof
end

