-- ==== Sys2Proof/Config.lean ====
section
/-! DEFINITION. What the spec calls a parameter (R5) and the one free value of the model. -/

namespace Sys2Proof.Config

/-- `CAP_MAX` = `2^INDEX_W - 1` = 255, the largest legal capacity (R5, D9). -/
def capMax : Nat := 255

/-- The number of byte cells of `ARRAY` (R40) and of `OUTBUF` and `INBUF` (`2^LEN_W`, R60) with `INDEX_W` = `LEN_W` = 8. -/
def cells : Nat := 256

/-- The unspecified byte a load of the slave engine supplies when its cell gives it none (R65: offset at or above `CAP`;
R266: a cell nothing has written).
It has no body: nothing can be proved of its value.
It is applied to `State.draws`, a counter every draw advances (assumption 1). -/
opaque freeByte : Nat → Byte

end Sys2Proof.Config
end

