-- ==== Sys2Proof/Syntax.lean ====
section
/-! DEFINITION. The instructions: one constructor for every row of spec/opcode_table.json, and the enumerations they use. -/

namespace Sys2Proof

/-- `Direction` (R92). -/
inductive Direction where
  | write
  | read
deriving DecidableEq, Repr

/-- `Framing` (R93): whether a command opens and whether it closes a bus session. -/
inductive Framing where
  | none
  | start
  | stop
  | startAndStop
deriving DecidableEq, Repr

/-- `AckPolicy` (R94). -/
inductive AckPolicy where
  | nack
  | ack
deriving DecidableEq, Repr

/-- `ReceivePhase` (R32, R94). -/
inductive ReceivePhase where
  | awaitingIndex
  | receivingData
deriving DecidableEq, Repr

/-- `Result` (R24, R94). -/
inductive CmdResult where
  | ok
  | fail
deriving DecidableEq, Repr

/-- `StatusCode`: the nineteen names of R95, and the class UNKNOWN of R96. -/
inductive StatusCode where
  | stBusError
  | stStart
  | stRepStart
  | stMtSlaAck
  | stMtSlaNack
  | stMtDataAck
  | stMtDataNack
  | stMrSlaAck
  | stMrSlaNack
  | stMrDataAck
  | stMrDataNack
  | stSrSlaAck
  | stSrDataAck
  | stSrDataNack
  | stSrStop
  | stStSlaAck
  | stStDataAck
  | stStDataNack
  | stStLastData
  | unknown
deriving DecidableEq, Repr

/-- What `HOST_RD` may name: the registers and cells R52 lets the foreground read. -/
inductive RdTarget where
  | result
  | resultValid
  | mBusy
  | sfault
  | index
  | sEn
  | sPhase
  | cap
  | cfgDone
  | array (i : Byte)
  | inbuf (i : Byte)
deriving DecidableEq, Repr

/-- What `HOST_WR` may name: the registers and cells R52 lets the foreground write. -/
inductive WrTarget where
  | aAddr
  | aLen
  | aIlen
  | aRate
  | aPullups
  | aCap
  | cmd
  | evtIe
  | index
  | array (i : Byte)
  | outbuf (i : Byte)
deriving DecidableEq, Repr

/-- The formats of spec/opcode_table.json: which interface of the block a word belongs to.
Words of different formats overlap in their bits (`0x00` is `CONFIGURE`, a status, an event and `CLI`), so a word means
something only together with its port (assumption 2). -/
inductive Port where
  /-- a write of the command byte `CMD` (R103) -/
  | cmd
  /-- `PHY` completes the outstanding bus step with this status (R126) -/
  | status
  /-- the latched `EVT_STATUS` the handler dispatches on (R106) -/
  | evt
  /-- an HPI request word (R110) -/
  | hpi
  /-- `PHY` raises an event (R132) -/
  | phyEvent
  /-- a write of the one bit `EVT_IE` (R218) -/
  | fgIe
  /-- a host-port read (R219) -/
  | hostRd
  /-- a host-port write (R219) -/
  | hostWr
deriving DecidableEq, Repr

/-- A word at a port: `word` holds the bits spec/opcode_table.json numbers, `arg` the operand the table gives no bits
(the byte that comes with a completed receive; the register or cell a host access names) (assumption 3). -/
structure InWord where
  port : Port
  word : BitVec 32
  arg  : BitVec 16
deriving DecidableEq, Repr

/-- One constructor per row of spec/opcode_table.json, in the table's order. -/
inductive Instr where
  -- commands (R103)
  | configure
  | mStart (d : Direction)
  | mStop
  | mWrite (f : Framing)
  | mRead (f : Framing)
  | mTransfer
  | sStart
  | sStop
  | cmdReserved (b : Byte)
  -- answers of PHY to a waiting primitive: the status, and the byte a receive brings (R97, R126)
  | statusStBusError (rx : Byte)
  | statusStStart (rx : Byte)
  | statusStRepStart (rx : Byte)
  | statusStMtSlaAck (rx : Byte)
  | statusStMtSlaNack (rx : Byte)
  | statusStMtDataAck (rx : Byte)
  | statusStMtDataNack (rx : Byte)
  | statusStMrSlaAck (rx : Byte)
  | statusStMrSlaNack (rx : Byte)
  | statusStMrDataAck (rx : Byte)
  | statusStMrDataNack (rx : Byte)
  | statusStSrSlaAck (rx : Byte)
  | statusStSrDataAck (rx : Byte)
  | statusStSrDataNack (rx : Byte)
  | statusStSrStop (rx : Byte)
  | statusStStSlaAck (rx : Byte)
  | statusStStDataAck (rx : Byte)
  | statusStStDataNack (rx : Byte)
  | statusStStLastData (rx : Byte)
  | statusUnknown (code : Byte) (rx : Byte)
  -- handler rows of the slave engine (R181)
  | evtStSrSlaAck
  | evtStSrDataAckAwaitingIndex
  | evtStSrDataAckReceivingData
  | evtStSrDataNackReceivingData
  | evtStSrDataNackAwaitingIndex
  | evtStStSlaAck
  | evtStStDataAck
  | evtStStDataNack
  | evtStStLastData
  | evtStSrStop
  | evtStBusError
  | evtStStart
  | evtStRepStart
  | evtStMtSlaAck
  | evtStMtSlaNack
  | evtStMtDataAck
  | evtStMtDataNack
  | evtStMrSlaAck
  | evtStMrSlaNack
  | evtStMrDataAck
  | evtStMrDataNack
  | evtUnknown (code : Byte)
  -- primitives of the physical layer (R110)
  | hpiConfigureClock
  | hpiIssueStart
  | hpiIssueStop
  | hpiTransmitByte (b : Byte)
  | hpiReceiveByte (policy : AckPolicy)
  | hpiCurrentStatus
  | hpiEnableSlave (addr : BusAddr)
  | hpiDisableSlave
  | hpiRearm (policy : AckPolicy) (stop : Bool)
  -- the event PHY raises (R132)
  | phyRaiseEvent (status : Byte) (rx : Byte)
  -- foreground steps that are not commands (R218, R219)
  | cli
  | sei
  | hostRd (x : RdTarget)
  | hostWr (x : WrTarget) (v : HostWord)
deriving DecidableEq, Repr

/-- `framing requests opening`: bit 0 of the encoding (R93). -/
def Framing.opens : Framing → Bool
  | .none => false
  | .start => true
  | .stop => false
  | .startAndStop => true

/-- `framing requests closing`: bit 1 of the encoding (R93). -/
def Framing.closes : Framing → Bool
  | .none => false
  | .start => false
  | .stop => true
  | .startAndStop => true

end Sys2Proof
end

