-- ==== Sys2Proof/WellFormed.lean ====
section
/-! DEFINITION. Which terms of `Instr` are instructions of the spec. -/

namespace Sys2Proof

/-- The fifteen legal values of `CMD`, as R107 lists them. -/
def legalCmdBytes : List Byte :=
  [0x00#8, 0x01#8, 0x09#8, 0x02#8, 0x03#8, 0x13#8, 0x23#8, 0x33#8, 0x04#8, 0x14#8, 0x24#8, 0x34#8, 0x05#8, 0x06#8, 0x07#8]

/-- The nineteen named status values of R97, in the order of its table. -/
def namedStatusBytes : List Byte :=
  [0x00#8, 0x08#8, 0x10#8, 0x18#8, 0x20#8, 0x28#8, 0x30#8, 0x40#8, 0x48#8, 0x50#8, 0x58#8, 0x60#8, 0x80#8, 0x88#8,
   0xA0#8, 0xA8#8, 0xB8#8, 0xC0#8, 0xC8#8]

/-- The width of a location the host port writes (R20, R29, R63, R103). -/
def WrTarget.width : WrTarget → Nat
  | .aAddr => 7
  | .aLen => 8
  | .aIlen => 8
  | .aRate => 32
  | .aPullups => 1
  | .aCap => 8
  | .cmd => 8
  | .evtIe => 1
  | .index => 8
  | .array _ => 8
  | .outbuf _ => 8

/-- A reserved command is none of the legal bytes (R107); a status or event of class UNKNOWN has none of the named values
(R96); a written value fits its location.
Every other term is an instruction whatever its operands. -/
def Instr.wf : Instr → Bool
  | .cmdReserved b => !legalCmdBytes.contains b
  | .statusUnknown code _ => !namedStatusBytes.contains code
  | .evtUnknown code => !namedStatusBytes.contains code
  | .hostWr x v => decide (v.toNat < 2 ^ x.width)
  | .configure | .mStart _ | .mStop | .mWrite _ | .mRead _ | .mTransfer | .sStart | .sStop => true
  | .statusStBusError _ | .statusStStart _ | .statusStRepStart _ | .statusStMtSlaAck _ | .statusStMtSlaNack _
  | .statusStMtDataAck _ | .statusStMtDataNack _ | .statusStMrSlaAck _ | .statusStMrSlaNack _ | .statusStMrDataAck _
  | .statusStMrDataNack _ | .statusStSrSlaAck _ | .statusStSrDataAck _ | .statusStSrDataNack _ | .statusStSrStop _
  | .statusStStSlaAck _ | .statusStStDataAck _ | .statusStStDataNack _ | .statusStStLastData _ => true
  | .evtStSrSlaAck | .evtStSrDataAckAwaitingIndex | .evtStSrDataAckReceivingData | .evtStSrDataNackReceivingData
  | .evtStSrDataNackAwaitingIndex | .evtStStSlaAck | .evtStStDataAck | .evtStStDataNack | .evtStStLastData
  | .evtStSrStop | .evtStBusError | .evtStStart | .evtStRepStart | .evtStMtSlaAck | .evtStMtSlaNack | .evtStMtDataAck
  | .evtStMtDataNack | .evtStMrSlaAck | .evtStMrSlaNack | .evtStMrDataAck | .evtStMrDataNack => true
  | .hpiConfigureClock | .hpiIssueStart | .hpiIssueStop | .hpiTransmitByte _ | .hpiReceiveByte _ | .hpiCurrentStatus
  | .hpiEnableSlave _ | .hpiDisableSlave | .hpiRearm _ _ | .phyRaiseEvent _ _ | .cli | .sei | .hostRd _ => true

end Sys2Proof
end

