-- ==== Sys2Proof/Decode.lean ====
section
/-! DEFINITION. The decoder, total on any word at any port, and after it the encoder.
R113: a decoder for the block is `decode_cmd`, `classify` and `dispatch`; spec/opcode_table.json adds the HPI request word,
the event PHY raises and the foreground's other steps. -/

namespace Sys2Proof

/-- Why a word is no instruction. -/
inductive DecodeError where
  /-- a bit above the port's width is set -/
  | wordTooWide (p : Port)
  /-- an operand bit the port does not have is set -/
  | argTooWide (p : Port)
  /-- an HPI request code R110 leaves unassigned (`0x9` to `0xF`) -/
  | hpiUnassigned (hop : BitVec 4)
  /-- no register or cell has this number (assumption 3) -/
  | noSuchTarget (n : BitVec 16)
  /-- a value wider than the location it is written to -/
  | valueTooWide (x : WrTarget)
deriving DecidableEq, Repr

/-! ### The small enumerations -/

/-- `dirbit` (R91, R92): Write = 0, Read = 1. -/
def Direction.bit : Direction → Bool
  | .write => false
  | .read => true

def Direction.ofBit (b : Bool) : Direction := if b then .read else .write

/-- Framing's two bits: bit 0 `OPEN`, bit 1 `CLOSE` (R93). -/
def Framing.bits : Framing → BitVec 2
  | .none => 0#2
  | .start => 1#2
  | .stop => 2#2
  | .startAndStop => 3#2

def Framing.ofBits (b : BitVec 2) : Framing :=
  if b = 0#2 then .none else if b = 1#2 then .start else if b = 2#2 then .stop else .startAndStop

/-- Ack = 1, Nack = 0 (R94). -/
def AckPolicy.bit : AckPolicy → Bool
  | .nack => false
  | .ack => true

def AckPolicy.ofBit (b : Bool) : AckPolicy := if b then .ack else .nack

/-- AwaitingIndex = 0, ReceivingData = 1 (R94). -/
def ReceivePhase.bit : ReceivePhase → Bool
  | .awaitingIndex => false
  | .receivingData => true

/-- success = 0, failure = 1 (R94). -/
def CmdResult.bit : CmdResult → Bool
  | .ok => false
  | .fail => true

/-! ### Status codes -/

/-- `STATUS_ENC`, the table of R97. -/
def statusTable : List (Byte × StatusCode) :=
  [(0x00#8, .stBusError), (0x08#8, .stStart), (0x10#8, .stRepStart), (0x18#8, .stMtSlaAck), (0x20#8, .stMtSlaNack),
   (0x28#8, .stMtDataAck), (0x30#8, .stMtDataNack), (0x40#8, .stMrSlaAck), (0x48#8, .stMrSlaNack), (0x50#8, .stMrDataAck),
   (0x58#8, .stMrDataNack), (0x60#8, .stSrSlaAck), (0x80#8, .stSrDataAck), (0x88#8, .stSrDataNack), (0xA0#8, .stSrStop),
   (0xA8#8, .stStSlaAck), (0xB8#8, .stStDataAck), (0xC0#8, .stStDataNack), (0xC8#8, .stStLastData)]

/-- `classify` (R96): total, every other value is UNKNOWN. -/
def classify (b : Byte) : StatusCode := (statusTable.lookup b).getD .unknown

/-! ### The decoders, one per port -/

/-- `decode_cmd` (R103, R107): `OP[2:0]`, `DIR[3]`, `FRAMING[5:4]`, `[7:6]` zero. -/
def decodeCmd (b : Byte) : Instr :=
  let op := b.extractLsb' 0 3
  let dir := b.getLsbD 3
  let framing := b.extractLsb' 4 2
  if b.extractLsb' 6 2 ≠ 0#2 then .cmdReserved b
  else if dir = true ∧ op ≠ 1#3 then .cmdReserved b
  else if framing ≠ 0#2 ∧ op ≠ 3#3 ∧ op ≠ 4#3 then .cmdReserved b
  else if op = 0#3 then .configure
  else if op = 1#3 then .mStart (.ofBit dir)
  else if op = 2#3 then .mStop
  else if op = 3#3 then .mWrite (.ofBits framing)
  else if op = 4#3 then .mRead (.ofBits framing)
  else if op = 5#3 then .mTransfer
  else if op = 6#3 then .sStart
  else .sStop

/-- The answer `PHY` gives to the outstanding bus step: a status, and for a receive a byte (R123, R124, R126). -/
def decodeStatus (code rx : Byte) : Instr :=
  match classify code with
  | .stBusError => .statusStBusError rx
  | .stStart => .statusStStart rx
  | .stRepStart => .statusStRepStart rx
  | .stMtSlaAck => .statusStMtSlaAck rx
  | .stMtSlaNack => .statusStMtSlaNack rx
  | .stMtDataAck => .statusStMtDataAck rx
  | .stMtDataNack => .statusStMtDataNack rx
  | .stMrSlaAck => .statusStMrSlaAck rx
  | .stMrSlaNack => .statusStMrSlaNack rx
  | .stMrDataAck => .statusStMrDataAck rx
  | .stMrDataNack => .statusStMrDataNack rx
  | .stSrSlaAck => .statusStSrSlaAck rx
  | .stSrDataAck => .statusStSrDataAck rx
  | .stSrDataNack => .statusStSrDataNack rx
  | .stSrStop => .statusStSrStop rx
  | .stStSlaAck => .statusStStSlaAck rx
  | .stStDataAck => .statusStStDataAck rx
  | .stStDataNack => .statusStStDataNack rx
  | .stStLastData => .statusStStLastData rx
  | .unknown => .statusUnknown code rx

/-- `dispatch` (R106, R113, R181): the row of the handler a latched status selects in a receive phase. -/
def decodeEvt (code : Byte) (ph : ReceivePhase) : Instr :=
  match classify code, ph with
  | .stSrSlaAck, _ => .evtStSrSlaAck
  | .stSrDataAck, .awaitingIndex => .evtStSrDataAckAwaitingIndex
  | .stSrDataAck, .receivingData => .evtStSrDataAckReceivingData
  | .stSrDataNack, .receivingData => .evtStSrDataNackReceivingData
  | .stSrDataNack, .awaitingIndex => .evtStSrDataNackAwaitingIndex
  | .stStSlaAck, _ => .evtStStSlaAck
  | .stStDataAck, _ => .evtStStDataAck
  | .stStDataNack, _ => .evtStStDataNack
  | .stStLastData, _ => .evtStStLastData
  | .stSrStop, _ => .evtStSrStop
  | .stBusError, _ => .evtStBusError
  | .stStart, _ => .evtStStart
  | .stRepStart, _ => .evtStRepStart
  | .stMtSlaAck, _ => .evtStMtSlaAck
  | .stMtSlaNack, _ => .evtStMtSlaNack
  | .stMtDataAck, _ => .evtStMtDataAck
  | .stMtDataNack, _ => .evtStMtDataNack
  | .stMrSlaAck, _ => .evtStMrSlaAck
  | .stMrSlaNack, _ => .evtStMrSlaNack
  | .stMrDataAck, _ => .evtStMrDataAck
  | .stMrDataNack, _ => .evtStMrDataNack
  | .unknown, _ => .evtUnknown code

/-- The HPI request word `{HOP[3:0], HARG[7:0]}` (R110); the bits the table marks `z` are ignored. -/
def decodeHpi (w : BitVec 12) : Except DecodeError Instr :=
  let hop := w.extractLsb' 8 4
  if hop = 0x0#4 then .ok .hpiConfigureClock
  else if hop = 0x1#4 then .ok .hpiIssueStart
  else if hop = 0x2#4 then .ok .hpiIssueStop
  else if hop = 0x3#4 then .ok (.hpiTransmitByte (w.extractLsb' 0 8))
  else if hop = 0x4#4 then .ok (.hpiReceiveByte (.ofBit (w.getLsbD 0)))
  else if hop = 0x5#4 then .ok .hpiCurrentStatus
  else if hop = 0x6#4 then .ok (.hpiEnableSlave (w.extractLsb' 0 7))
  else if hop = 0x7#4 then .ok .hpiDisableSlave
  else if hop = 0x8#4 then .ok (.hpiRearm (.ofBit (w.getLsbD 0)) (w.getLsbD 1))
  else .error (.hpiUnassigned hop)

/-- The register or cell a host read names.
The numbers are the model's: registers are named, not numbered (R29, assumption 3). -/
def decodeRdTarget (n : BitVec 16) : Except DecodeError RdTarget :=
  if n.extractLsb' 8 8 = 1#8 then .ok (.array (n.extractLsb' 0 8))
  else if n.extractLsb' 8 8 = 2#8 then .ok (.inbuf (n.extractLsb' 0 8))
  else if n = 0#16 then .ok .result
  else if n = 1#16 then .ok .resultValid
  else if n = 2#16 then .ok .mBusy
  else if n = 3#16 then .ok .sfault
  else if n = 4#16 then .ok .index
  else if n = 5#16 then .ok .sEn
  else if n = 6#16 then .ok .sPhase
  else if n = 7#16 then .ok .cap
  else if n = 8#16 then .ok .cfgDone
  else .error (.noSuchTarget n)

/-- The register or cell a host write names (assumption 3). -/
def decodeWrTarget (n : BitVec 16) : Except DecodeError WrTarget :=
  if n.extractLsb' 8 8 = 1#8 then .ok (.array (n.extractLsb' 0 8))
  else if n.extractLsb' 8 8 = 3#8 then .ok (.outbuf (n.extractLsb' 0 8))
  else if n = 0#16 then .ok .aAddr
  else if n = 1#16 then .ok .aLen
  else if n = 2#16 then .ok .aIlen
  else if n = 3#16 then .ok .aRate
  else if n = 4#16 then .ok .aPullups
  else if n = 5#16 then .ok .aCap
  else if n = 6#16 then .ok .cmd
  else if n = 7#16 then .ok .evtIe
  else if n = 8#16 then .ok .index
  else .error (.noSuchTarget n)

/-- How many bits a port's word has (the table's widths; a written value may be 32 bits wide, R20). -/
def Port.width : Port → Nat
  | .cmd => 8
  | .status => 8
  | .evt => 8
  | .hpi => 12
  | .phyEvent => 16
  | .fgIe => 1
  | .hostRd => 32
  | .hostWr => 32

/-- How many operand bits beyond the table's word a port has. -/
def Port.argWidth : Port → Nat
  | .cmd => 0
  | .status => 8
  | .evt => 0
  | .hpi => 0
  | .phyEvent => 0
  | .fgIe => 0
  | .hostRd => 16
  | .hostWr => 16

/-- The decoder: total on every word at every port, in the receive phase that selects between two rows of one status (R181).
The word of a `HOST_RD` is the value it returns, so it selects nothing. -/
def decode (ph : ReceivePhase) (w : InWord) : Except DecodeError Instr :=
  if 2 ^ w.port.width ≤ w.word.toNat then .error (.wordTooWide w.port)
  else if 2 ^ w.port.argWidth ≤ w.arg.toNat then .error (.argTooWide w.port)
  else
    match w.port with
    | .cmd => .ok (decodeCmd (w.word.setWidth 8))
    | .status => .ok (decodeStatus (w.word.setWidth 8) (w.arg.setWidth 8))
    | .evt => .ok (decodeEvt (w.word.setWidth 8) ph)
    | .hpi => decodeHpi (w.word.setWidth 12)
    | .phyEvent => .ok (.phyRaiseEvent (w.word.extractLsb' 8 8) (w.word.extractLsb' 0 8))
    | .fgIe => .ok (if w.word = 0#32 then .cli else .sei)
    | .hostRd =>
      match decodeRdTarget w.arg with
      | .ok x => .ok (.hostRd x)
      | .error e => .error e
    | .hostWr =>
      match decodeWrTarget w.arg with
      | .ok x => if w.word.toNat < 2 ^ x.width then .ok (.hostWr x w.word) else .error (.valueTooWide x)
      | .error e => .error e

/-! ### A word of the table without its port -/

/-- The port of a word given only by the bits the table numbers.
The table's formats overlap, so this is the model's reading (assumption 2): one byte is a command when it is a legal one,
else an event when it is a named status, else a (reserved) command; two bytes are an HPI request word when its code is
assigned, else an event PHY raises. -/
def tablePort (nbits w : Nat) : Port :=
  if nbits = 8 then
    if legalCmdBytes.contains (BitVec.ofNat 8 w) then .cmd
    else if namedStatusBytes.contains (BitVec.ofNat 8 w) then .evt
    else .cmd
  else if w < 0x900 then .hpi
  else .phyEvent

def tableWord (nbits w : Nat) : InWord := ⟨tablePort nbits w, BitVec.ofNat 32 w, 0#16⟩

/-- The instruction the decoder reads from a word of the table (in the receive phase of reset). -/
def decodeTableWord (nbits w : Nat) : Option Instr :=
  if (nbits = 8 ∨ nbits = 16) ∧ w < 2 ^ nbits then
    match decode .awaitingIndex (tableWord nbits w) with
    | .ok i => some i
    | .error _ => none
  else none

/-! ### The encoder -/

/-- A command byte from its fields (R103). -/
def cmdByte (op : BitVec 3) (dir : Bool) (framing : BitVec 2) : Byte :=
  0#2 ++ framing ++ BitVec.ofBool dir ++ op

def encodeCmd (b : Byte) : InWord := ⟨.cmd, b.setWidth 32, 0#16⟩

def encodeStatus (code rx : Byte) : InWord := ⟨.status, code.setWidth 32, rx.setWidth 16⟩

def encodeEvt (code : Byte) : InWord := ⟨.evt, code.setWidth 32, 0#16⟩

def encodeHpi (hop : BitVec 4) (harg : Byte) : InWord := ⟨.hpi, (hop ++ harg).setWidth 32, 0#16⟩

/-- The model's number of a location the host port reads (assumption 3). -/
def RdTarget.number : RdTarget → BitVec 16
  | .result => 0#16
  | .resultValid => 1#16
  | .mBusy => 2#16
  | .sfault => 3#16
  | .index => 4#16
  | .sEn => 5#16
  | .sPhase => 6#16
  | .cap => 7#16
  | .cfgDone => 8#16
  | .array i => 1#8 ++ i
  | .inbuf i => 2#8 ++ i

/-- The model's number of a location the host port writes (assumption 3). -/
def WrTarget.number : WrTarget → BitVec 16
  | .aAddr => 0#16
  | .aLen => 1#16
  | .aIlen => 2#16
  | .aRate => 3#16
  | .aPullups => 4#16
  | .aCap => 5#16
  | .cmd => 6#16
  | .evtIe => 7#16
  | .index => 8#16
  | .array i => 1#8 ++ i
  | .outbuf i => 3#8 ++ i

/-- The word of an instruction, from the encoding tables of R93, R94, R97, R103 and R110. -/
def encode : Instr → InWord
  | .configure => encodeCmd (cmdByte 0#3 false 0#2)
  | .mStart d => encodeCmd (cmdByte 1#3 d.bit 0#2)
  | .mStop => encodeCmd (cmdByte 2#3 false 0#2)
  | .mWrite f => encodeCmd (cmdByte 3#3 false f.bits)
  | .mRead f => encodeCmd (cmdByte 4#3 false f.bits)
  | .mTransfer => encodeCmd (cmdByte 5#3 false 0#2)
  | .sStart => encodeCmd (cmdByte 6#3 false 0#2)
  | .sStop => encodeCmd (cmdByte 7#3 false 0#2)
  | .cmdReserved b => encodeCmd b
  | .statusStBusError rx => encodeStatus 0x00#8 rx
  | .statusStStart rx => encodeStatus 0x08#8 rx
  | .statusStRepStart rx => encodeStatus 0x10#8 rx
  | .statusStMtSlaAck rx => encodeStatus 0x18#8 rx
  | .statusStMtSlaNack rx => encodeStatus 0x20#8 rx
  | .statusStMtDataAck rx => encodeStatus 0x28#8 rx
  | .statusStMtDataNack rx => encodeStatus 0x30#8 rx
  | .statusStMrSlaAck rx => encodeStatus 0x40#8 rx
  | .statusStMrSlaNack rx => encodeStatus 0x48#8 rx
  | .statusStMrDataAck rx => encodeStatus 0x50#8 rx
  | .statusStMrDataNack rx => encodeStatus 0x58#8 rx
  | .statusStSrSlaAck rx => encodeStatus 0x60#8 rx
  | .statusStSrDataAck rx => encodeStatus 0x80#8 rx
  | .statusStSrDataNack rx => encodeStatus 0x88#8 rx
  | .statusStSrStop rx => encodeStatus 0xA0#8 rx
  | .statusStStSlaAck rx => encodeStatus 0xA8#8 rx
  | .statusStStDataAck rx => encodeStatus 0xB8#8 rx
  | .statusStStDataNack rx => encodeStatus 0xC0#8 rx
  | .statusStStLastData rx => encodeStatus 0xC8#8 rx
  | .statusUnknown code rx => encodeStatus code rx
  | .evtStSrSlaAck => encodeEvt 0x60#8
  | .evtStSrDataAckAwaitingIndex => encodeEvt 0x80#8
  | .evtStSrDataAckReceivingData => encodeEvt 0x80#8
  | .evtStSrDataNackReceivingData => encodeEvt 0x88#8
  | .evtStSrDataNackAwaitingIndex => encodeEvt 0x88#8
  | .evtStStSlaAck => encodeEvt 0xA8#8
  | .evtStStDataAck => encodeEvt 0xB8#8
  | .evtStStDataNack => encodeEvt 0xC0#8
  | .evtStStLastData => encodeEvt 0xC8#8
  | .evtStSrStop => encodeEvt 0xA0#8
  | .evtStBusError => encodeEvt 0x00#8
  | .evtStStart => encodeEvt 0x08#8
  | .evtStRepStart => encodeEvt 0x10#8
  | .evtStMtSlaAck => encodeEvt 0x18#8
  | .evtStMtSlaNack => encodeEvt 0x20#8
  | .evtStMtDataAck => encodeEvt 0x28#8
  | .evtStMtDataNack => encodeEvt 0x30#8
  | .evtStMrSlaAck => encodeEvt 0x40#8
  | .evtStMrSlaNack => encodeEvt 0x48#8
  | .evtStMrDataAck => encodeEvt 0x50#8
  | .evtStMrDataNack => encodeEvt 0x58#8
  | .evtUnknown code => encodeEvt code
  | .hpiConfigureClock => encodeHpi 0x0#4 0#8
  | .hpiIssueStart => encodeHpi 0x1#4 0#8
  | .hpiIssueStop => encodeHpi 0x2#4 0#8
  | .hpiTransmitByte b => encodeHpi 0x3#4 b
  | .hpiReceiveByte p => encodeHpi 0x4#4 (0#7 ++ BitVec.ofBool p.bit)
  | .hpiCurrentStatus => encodeHpi 0x5#4 0#8
  | .hpiEnableSlave a => encodeHpi 0x6#4 (0#1 ++ a)
  | .hpiDisableSlave => encodeHpi 0x7#4 0#8
  | .hpiRearm p stop => encodeHpi 0x8#4 (0#6 ++ BitVec.ofBool stop ++ BitVec.ofBool p.bit)
  | .phyRaiseEvent status rx => ⟨.phyEvent, (status ++ rx).setWidth 32, 0#16⟩
  | .cli => ⟨.fgIe, 0#32, 0#16⟩
  | .sei => ⟨.fgIe, 1#32, 0#16⟩
  | .hostRd x => ⟨.hostRd, 0#32, x.number⟩
  | .hostWr x v => ⟨.hostWr, v, x.number⟩

/-- The receive phases in which a word stands for the instruction: all of them, but for the four rows that share a status
with another row (R181). -/
def Instr.inPhase : Instr → ReceivePhase → Bool
  | .evtStSrDataAckAwaitingIndex, ph => ph == .awaitingIndex
  | .evtStSrDataAckReceivingData, ph => ph == .receivingData
  | .evtStSrDataNackReceivingData, ph => ph == .receivingData
  | .evtStSrDataNackAwaitingIndex, ph => ph == .awaitingIndex
  | _, _ => true

end Sys2Proof
end

