-- ==== Sys2Proof/Machine/State.lean ====
section
/-! DEFINITION. The state of the block as plain data, the reasons a step can stop, and the state right after reset.
The registers are grouped by the agent they belong to; every group is a record of plain data. -/

namespace Sys2Proof.Machine

/-- One of the block's three byte memories (R60): (offset, byte) pairs, offsets strictly rising.
An offset that is not listed holds no value: nothing has written it since reset (R260). -/
abbrev Memory := List Host.Cell

/-- The address spaces of single-byte cells (R8, R60). -/
inductive Space where
  | array
  | outbuf
  | inbuf
deriving DecidableEq, Repr

/-- The five values of `M_STATE` (R21). -/
inductive MState where
  | idle
  | startWait
  | addrWait
  | txWait
  | rxWait
deriving DecidableEq, Repr

/-- The causes of a master failure, numbered 1 to 4 in R230.
They stand in the trace only. -/
inductive Cause where
  | startFailed
  | addressRejected
  | dataRejected
  | timeout
deriving DecidableEq, Repr

/-- The three waiting primitives (R126): what a bus step was asked to do. -/
inductive BusStep where
  | start
  | transmit (b : Byte)
  | receive (policy : AckPolicy)
deriving DecidableEq, Repr

/-- One entry of the model's trace: a primitive the block issued, with its operands (R110), or the cause of a failure (R8).
A trace is no register of the block (R46, R230). -/
inductive TraceEntry where
  | configureClock (rate : Rate) (pullups : Bool)
  | issueStart
  | issueStop
  | transmitByte (b : Byte)
  | receiveByte (policy : AckPolicy)
  | currentStatus (answer : Byte)
  | enableSlave (addr : BusAddr)
  | disableSlave
  | rearm (policy : AckPolicy) (stop : Bool)
  | raised (cause : Cause)
deriving DecidableEq, Repr

/-- The operand registers (R20), and for each whether the foreground has written it since reset. -/
structure Operands where
  aAddr : BusAddr
  aLen : Byte
  aIlen : Byte
  aRate : Rate
  aPullups : Bool
  aCap : Byte
  addrWritten : Bool
  lenWritten : Bool
  ilenWritten : Bool
  rateWritten : Bool
  pullupsWritten : Bool
  capWritten : Bool
deriving DecidableEq, Repr

/-- The master sequencer: `M_STATE` (R21), `M_BUSY` (R22), the context registers (R23), `RESULT` and `RESULT_VALID` (R24). -/
structure Master where
  mState : MState
  mBusy : Bool
  mOp : BitVec 3
  mAddr : BusAddr
  mDir : Direction
  mFraming : Framing
  mLen : Byte
  mIlen : Byte
  mCnt : Byte
  mXph : Bool
  mRan : Bool
  result : CmdResult
  resultValid : Bool
deriving DecidableEq, Repr

/-- `CFG_RATE`, `CFG_PULLUPS`, `CFG_DONE` (R30). -/
structure Clock where
  rate : Rate
  pullups : Bool
  done : Bool
deriving DecidableEq, Repr

/-- The slave engine's registers (R25 to R28, R31 to R34, R133).
`capWritten` says that an `S_START` has given `CAP` a value since reset. -/
structure Slave where
  sEn : Bool
  sAddr : BusAddr
  cap : Byte
  capWritten : Bool
  sPhase : ReceivePhase
  index : Byte
  ackNext : AckPolicy
  evtPending : Bool
  evtStatus : Byte
  evtRx : Byte
  txData : Byte
  evtIe : Bool
  sfault : BitVec 3
deriving DecidableEq, Repr

/-- The model's side of the HPI contract: the bus step that waits for `PHY` (R126), the current status and whether a bus step
has completed at all (R47, R125), the byte of the last completed receive (R124), whether `PHY` listens for the own address
(R130, R131), and how many polls the outstanding wait has had (R234). -/
structure Phy where
  step : Option BusStep
  status : Byte
  statusKnown : Bool
  rxByte : Byte
  listening : Bool
  polls : Nat
deriving DecidableEq, Repr

/-- One turn of the interleaving (R11, R73): what happens next, and who does it. -/
inductive Turn where
  /-- a word arrives at a port: a foreground step, an answer of `PHY`, an event `PHY` raises, a request at the HPI -/
  | word (w : InWord)
  /-- the pending event is delivered to the handler (R241) -/
  | deliver
  /-- nobody takes a step: a poll of the outstanding wait finds it not complete (R126) -/
  | idle
deriving DecidableEq, Repr

/-- The whole machine.
`script`, `hostData`, `draws`, `waitLimit` and `trace` are the model's own (assumptions 1, 4, 5, 6, 7); the rest is what the
spec gives. -/
structure State where
  script : List Turn
  opnd : Operands
  mst : Master
  clk : Clock
  slv : Slave
  array : Memory
  outbuf : Memory
  inbuf : Memory
  phy : Phy
  hostData : HostWord
  draws : Nat
  waitLimit : Option Nat
  trace : List TraceEntry
deriving DecidableEq, Repr

/-- Why a run is marked faulted.
All three are safe: the run stops where the block would go on with a value nobody knows. -/
inductive Fault where
  /-- a read of a byte cell nothing has written since reset: by `HOST_RD` or by the sequencer sending `OUTBUF`
  (R219, R260, item U9 of 93); safe -/
  | unwrittenCell (space : Space) (offset : Byte)
  /-- `HOST_RD` of `RESULT` while `RESULT_VALID` = 0, or of `CAP` before any `S_START`: R24 and R219 say that a model faults
  it, D32 and item U9 of 93 too; safe -/
  | unwrittenRegister (x : RdTarget)
  /-- `hpi.currentStatus` before any bus step has completed: R125, and item U27 of 93 says that a model faults it; safe -/
  | noCurrentStatus
deriving DecidableEq, Repr

/-- Why a run is marked refused.
All are safe: no state follows, so nothing is claimed of what the block would do. -/
inductive Refusal where
  /-- no meaning yet; raised by exec's own arms only; safe -/
  | notModelled (mnemonic : String)
  /-- a write of `CMD` that is a reserved encoding (R107, R238); safe -/
  | reservedEncoding
  /-- a master command or `S_START` with `CFG_DONE` = 0 (R170, R213, R238); safe -/
  | notConfigured
  /-- a master command with `S_EN` = 1 (R170, R238); safe -/
  | masterWhileSlaveEnabled
  /-- `CONFIGURE` with `S_EN` = 1 (R210, R238); safe -/
  | configureWhileSlaveEnabled
  /-- a command that reads an operand register the foreground has not written since reset: R20, R170, R238 and D30 say that it is
  refused; safe -/
  | unwrittenOperand
  /-- `M_READ` with `A_LEN` = 0 (R161, R238); safe -/
  | readLengthZero
  /-- `S_START` with `A_CAP` = 0 (R213, R238); safe -/
  | capacityZero
  /-- a foreground step while a waiting primitive blocks the foreground (R22); the spec has no such step; safe -/
  | foregroundBlocked
  /-- an answer of `PHY` with no bus step outstanding (R126, R127); the spec has no such step; safe -/
  | noBusStep
  /-- a master-side primitive issued by itself while a waiting primitive has not completed (R71); the spec has no such step;
  safe -/
  | busStepOutstanding
  /-- a primitive issued by itself while a master command runs (R71: nothing else runs then); the spec has no such step;
  safe -/
  | commandRunning
  /-- a handler row while no event is deliverable (R180); the spec has no such step; safe -/
  | handlerNotEnabled
  /-- a handler row the latched status and the receive phase do not select (R181); the spec has no such step; safe -/
  | rowNotSelected
  /-- an event raised while `S_EN` = 0, `PHY` does not listen, or one is pending (R131, R132, R136); the spec has no such
  step; unsafe in one case, the event that a real controller might raise while one is pending (D31, assumption 8) -/
  | eventNotAllowed
  /-- a word that decodes to no instruction; safe -/
  | undecodable (e : DecodeError)
deriving DecidableEq, Repr

/-- What every meaning answers. -/
abbrev Outcome := Host.Outcome State Fault Refusal

/-- Right after reset (R260).
Where R260 says `unspecified` the register holds zero, the first value of its type (assumption 9); a command or a host read
that R20 and R219 forbid before a write still stops. -/
def State.reset : State where
  script := []
  opnd :=
    { aAddr := 0#7, aLen := 0#8, aIlen := 0#8, aRate := 0#32, aPullups := false, aCap := 0#8
      addrWritten := false, lenWritten := false, ilenWritten := false, rateWritten := false
      pullupsWritten := false, capWritten := false }
  mst :=
    { mState := .idle, mBusy := false, mOp := 0#3, mAddr := 0#7, mDir := .write, mFraming := .none
      mLen := 0#8, mIlen := 0#8, mCnt := 0#8, mXph := false, mRan := false, result := .ok, resultValid := false }
  clk := { rate := 0#32, pullups := false, done := false }
  slv :=
    { sEn := false, sAddr := 0#7, cap := 0#8, capWritten := false, sPhase := .awaitingIndex, index := 0#8
      ackNext := .nack, evtPending := false, evtStatus := 0#8, evtRx := 0#8, txData := 0#8, evtIe := true
      sfault := 0#3 }
  array := []
  outbuf := []
  inbuf := []
  phy := { step := none, status := 0#8, statusKnown := false, rxByte := 0#8, listening := false, polls := 0 }
  hostData := 0#32
  draws := 0
  waitLimit := none
  trace := []

end Sys2Proof.Machine
end

