-- ==== Sys2Proof/Machine/Flags.lean ====
section
/-! DEFINITION. Every flag computation of the spec: the status tests of the master, the acknowledge choice of the handler,
the bits of `SFAULT`, and who is blocked. -/

namespace Sys2Proof.Machine

/-! ### Opcodes as `M_OP` holds them (R23, R103) -/

def opMStart : BitVec 3 := 1#3
def opMWrite : BitVec 3 := 3#3
def opMRead : BitVec 3 := 4#3
def opMTransfer : BitVec 3 := 5#3

/-! ### Status tests of the master (R169): equality with the one or two accepted values, on names -/

/-- The start is confirmed: `ST_START` or `ST_REP_START`, never asking which (R46, R150). -/
def startConfirmed (code : Byte) : Bool := classify code == .stStart || classify code == .stRepStart

/-- `acked_for` (R98). -/
def ackedFor : Direction → StatusCode
  | .write => .stMtSlaAck
  | .read => .stMrSlaAck

def addressAcked (d : Direction) (code : Byte) : Bool := classify code == ackedFor d

def dataAcked (code : Byte) : Bool := classify code == .stMtDataAck

/-! ### The handler's acknowledge choice -/

/-- After a store: Ack while the incremented cursor is below `CAP - 1`, an unsigned comparison of naturals (R187). -/
def receiveAck (index cap : Byte) : AckPolicy := if index.toNat < cap.toNat - 1 then .ack else .nack

/-- After a load: Ack while the incremented cursor is below `CAP` (R190). -/
def transmitAck (index cap : Byte) : AckPolicy := if index.toNat < cap.toNat then .ack else .nack

/-- `INDEX < CAP`: an access of the slave engine at the cursor is in range (R64, R65). -/
def inRange (index cap : Byte) : Bool := decide (index.toNat < cap.toNat)

/-! ### `SFAULT` (R28): sticky bits, set by or-ing -/

def oobSt : BitVec 3 := 0b001#3
def oobLd : BitVec 3 := 0b010#3
def proto : BitVec 3 := 0b100#3

/-! ### Who is blocked -/

/-- The foreground takes no step while a master command runs (R22) or a waiting primitive has not completed (R126). -/
def foregroundWaits (s : State) : Bool := s.mst.mState != .idle || s.phy.step.isSome

/-- The handler runs when, and only when, these three are 1 (R180). -/
def deliverable (s : State) : Bool := s.slv.sEn && s.slv.evtIe && s.slv.evtPending

/-- `PHY` may raise an event (R131, R132, R136). -/
def eventAllowed (s : State) : Bool := s.slv.sEn && s.phy.listening && !s.slv.evtPending

end Sys2Proof.Machine
end

