-- ==== Sys2Proof/Machine/Memory.lean ====
section
/-! DEFINITION. The three byte memories: reading, writing and the canonical form (R60, R63). -/

namespace Sys2Proof.Machine

/-- `MemRead(space, a, 1)` (R63): the byte at an offset, or none where nothing has written it since reset (R260). -/
def Memory.read : Memory → Nat → Option Byte
  | [], _ => none
  | (k, b) :: rest, a => if k = a then some b else Memory.read rest a

/-- `MemWrite(space, a, 1, v)` (R63), keeping the offsets strictly rising. -/
def Memory.write : Memory → Nat → Byte → Memory
  | [], a, v => [(a, v)]
  | (k, b) :: rest, a, v =>
    if a < k then (a, v) :: (k, b) :: rest
    else if a = k then (a, v) :: rest
    else (k, b) :: Memory.write rest a v

/-- Offsets strictly rising from `lo`, and each one of the memory's cells. -/
def Memory.risingFrom : Nat → Memory → Bool
  | _, [] => true
  | lo, (k, _) :: rest => decide (lo ≤ k) && decide (k < Config.cells) && Memory.risingFrom (k + 1) rest

/-- The canonical form.
An unlisted offset reads as nothing, so no listed byte equals what an unlisted one reads as. -/
def Memory.wf (m : Memory) : Bool := Memory.risingFrom 0 m

end Sys2Proof.Machine
end

