-- ==== Sys2Proof/Machine/Operands.lean ====
section
/-! DEFINITION. Every operand form: the address byte, the lengths, which operand registers a command reads, and the
locations of the host port. -/

namespace Sys2Proof.Machine

/-- The address byte (R90): the address in bits 7 to 1, the direction in bit 0. -/
def addrByte (a : BusAddr) (d : Direction) : Byte := a ++ BitVec.ofBool d.bit

/-- `L` of the read body (R167): `M_ILEN` for `M_TRANSFER`, else `M_LEN`. -/
def readLen (m : Master) : Nat := if m.mOp = opMTransfer then m.mIlen.toNat else m.mLen.toNat

/-- The policy of the receive at offset `i`: Nack for the last byte of the read (R160). -/
def readPolicy (i len : Nat) : AckPolicy := if i + 1 = len then .nack else .ack

/-! ### Which operand registers a command reads, and whether the foreground has written them (R20, R103, R170) -/

def configureOperands (o : Operands) : Bool := o.rateWritten && o.pullupsWritten
def startOperands (o : Operands) : Bool := o.addrWritten

/-- `M_WRITE` and `M_READ` read `A_ADDR` only if the framing opens (R157, R160). -/
def bodyOperands (f : Framing) (o : Operands) : Bool := o.lenWritten && (!f.opens || o.addrWritten)
def transferOperands (o : Operands) : Bool := o.addrWritten && o.lenWritten && o.ilenWritten
def slaveStartOperands (o : Operands) : Bool := o.addrWritten && o.capWritten

/-! ### Host-port values -/

def boolWord (b : Bool) : HostWord := (BitVec.ofBool b).setWidth 32

def cellValue (space : Space) (m : Memory) (i : Byte) : Except Fault HostWord :=
  match m.read i.toNat with
  | some b => .ok (b.setWidth 32)
  | none => .error (.unwrittenCell space i)

/-- The value a host read returns, or the fault of a read R219 forbids. -/
def hostValue (x : RdTarget) (s : State) : Except Fault HostWord :=
  match x with
  | .result => if s.mst.resultValid then .ok (boolWord s.mst.result.bit) else .error (.unwrittenRegister .result)
  | .resultValid => .ok (boolWord s.mst.resultValid)
  | .mBusy => .ok (boolWord s.mst.mBusy)
  | .sfault => .ok (s.slv.sfault.setWidth 32)
  | .index => .ok (s.slv.index.setWidth 32)
  | .sEn => .ok (boolWord s.slv.sEn)
  | .sPhase => .ok (boolWord s.slv.sPhase.bit)
  | .cap => if s.slv.capWritten then .ok (s.slv.cap.setWidth 32) else .error (.unwrittenRegister .cap)
  | .cfgDone => .ok (boolWord s.clk.done)
  | .array i => cellValue .array s.array i
  | .inbuf i => cellValue .inbuf s.inbuf i

/-- The write of an operand register: the value, and the mark that the foreground has written it (R20). -/
def writeOperand (x : WrTarget) (v : HostWord) (o : Operands) : Operands :=
  match x with
  | .aAddr => { o with aAddr := v.setWidth 7, addrWritten := true }
  | .aLen => { o with aLen := v.setWidth 8, lenWritten := true }
  | .aIlen => { o with aIlen := v.setWidth 8, ilenWritten := true }
  | .aRate => { o with aRate := v, rateWritten := true }
  | .aPullups => { o with aPullups := v.getLsbD 0, pullupsWritten := true }
  | .aCap => { o with aCap := v.setWidth 8, capWritten := true }
  | .cmd => o
  | .evtIe => o
  | .index => o
  | .array _ => o
  | .outbuf _ => o

end Sys2Proof.Machine
end

