-- ==== Sys2Proof/Machine/Ops.lean ====
section
/-! DEFINITION. The shared operations: the primitives of the physical layer, the master's sequencing, taking a failure and
returning from a command, the slave engine's accesses and its re-arm, the wait. -/

namespace Sys2Proof.Machine

/-- The trace, newest entry first (assumption 7). -/
def State.log (e : TraceEntry) (s : State) : State := { s with trace := e :: s.trace }

/-! ### The primitives of the physical layer, as the block issues them -/

/-- `hpi.configureClock(rate, pullups)` (R120): passes `CFG_RATE` and `CFG_PULLUPS`; nothing is waited for. -/
def configureClock (s : State) : State := s.log (.configureClock s.clk.rate s.clk.pullups)

/-- A waiting primitive has been requested (R126): `PHY` owes one completion, and no poll has passed yet. -/
def request (b : BusStep) (s : State) : State := { s with phy := { s.phy with step := some b, polls := 0 } }

/-- `hpi.issueStart()` (R121). -/
def issueStart (s : State) : State := request .start (s.log .issueStart)

/-- `hpi.issueStop()` (R122): fire-and-forget. -/
def issueStop (s : State) : State := s.log .issueStop

/-- `hpi.transmitByte(b)` (R123). -/
def transmitByte (b : Byte) (s : State) : State := request (.transmit b) (s.log (.transmitByte b))

/-- `hpi.receiveByte(policy)` (R124). -/
def receiveByte (p : AckPolicy) (s : State) : State := request (.receive p) (s.log (.receiveByte p))

/-- `hpi.currentStatus()` (R125): the status of the most recent completed bus step; no side effect. -/
def currentStatus (s : State) : State := s.log (.currentStatus s.phy.status)

/-- `hpi.enableSlave(addr)` (R130): from now on `PHY` matches the own address. -/
def enableSlave (a : BusAddr) (s : State) : State :=
  { s with phy := { s.phy with listening := true }, trace := .enableSlave a :: s.trace }

/-- `hpi.disableSlave()` (R131): from now on `PHY` raises no event.
DESIGN CHOICE, assumption 13: an event already latched stays latched, with `S_EN` as it was, so a disable issued by itself
lets the handler still run it; `S_STOP` drops it (R214). -/
def disableSlave (s : State) : State :=
  { s with phy := { s.phy with listening := false }, trace := .disableSlave :: s.trace }

/-- `hpi.rearm(ack, stop)` (R134, R182): the return from the handler, which restores nothing because nothing was saved
(R243, R244). -/
def rearm (p : AckPolicy) (stop : Bool) (s : State) : State :=
  { s with slv := { s.slv with ackNext := p, evtPending := false }, trace := .rearm p stop :: s.trace }

/-! ### Returning from a command, and taking a failure -/

/-- `return r` (R150): `RESULT`, `RESULT_VALID`, `M_BUSY`, `M_STATE`. -/
def returnResult (r : CmdResult) (s : State) : State :=
  { s with mst := { s.mst with result := r, resultValid := true, mBusy := false, mState := .idle } }

/-- Taking a master failure, the block's one synchronous exception (R8, R230): the cause goes to the trace, the command ends
with FAIL, and nothing else is saved (R235). -/
def raiseFailure (c : Cause) (s : State) : State := returnResult .fail (s.log (.raised c))

/-! ### The master's sequencing (R150 to R167) -/

/-- `begin_start` (R167): the start of `start_sub`. -/
def beginStart (d : Direction) (s : State) : State :=
  let t := issueStart s
  { t with mst := { t.mst with mDir := d, mState := .startWait } }

/-- The address byte of `start_sub` (R150). -/
def sendAddress (s : State) : State :=
  let t := transmitByte (addrByte s.mst.mAddr s.mst.mDir) s
  { t with mst := { t.mst with mState := .addrWait } }

/-- The closing stop a framing requests (R157, R160). -/
def closeIf (b : Bool) (s : State) : State := if b then issueStop s else s

/-- The trailing stop of `M_TRANSFER`, when a phase ran (R163), and `return OK`. -/
def finishTransfer (s : State) : State := returnResult .ok (closeIf s.mst.mRan s)

/-- The read phase of `M_TRANSFER`, entered if its length is greater than 0, else the end (R163). -/
def readPhase (s : State) : State :=
  if s.mst.mIlen.toNat = 0 then finishTransfer s
  else beginStart .read { s with mst := { s.mst with mRan := true, mXph := true, mCnt := 0#8 } }

/-- After the last byte of a write body (R157, R163, R167). -/
def writeDone (s : State) : State :=
  if s.mst.mOp = opMTransfer then readPhase s else returnResult .ok (closeIf s.mst.mFraming.closes s)

/-- After the last byte of a read body (R160, R163, R167). -/
def readDone (s : State) : State :=
  if s.mst.mOp = opMTransfer then finishTransfer s else returnResult .ok (closeIf s.mst.mFraming.closes s)

/-- `write_body` from offset `i` (R157): sends `OUTBUF[i]`, or ends the body.
An unwritten cell has no value to send: a fault (R260, assumption 10). -/
def sendFrom (i : Nat) (s : State) : Outcome :=
  if i < s.mst.mLen.toNat then
    match s.outbuf.read i with
    | some b =>
      let t := transmitByte b s
      .next { t with mst := { t.mst with mCnt := BitVec.ofNat 8 i, mState := .txWait } }
    | none => .fault (.unwrittenCell .outbuf (BitVec.ofNat 8 i))
  else .next (writeDone s)

/-- `read_body` from offset `i` (R160): asks for byte `i` with its policy. -/
def receiveFrom (i : Nat) (s : State) : State :=
  let t := receiveByte (readPolicy i (readLen s.mst)) s
  { t with mst := { t.mst with mCnt := BitVec.ofNat 8 i, mState := .rxWait } }

/-! ### Completion of a bus step (R126, R167) -/

/-- `PHY`'s answer to the outstanding step: its status is current from now on (R47), its byte, if the step was a receive, is
the one received (R124). -/
def recordAnswer (b : BusStep) (code rx : Byte) (s : State) : State :=
  let rxByte :=
    match b with
    | .receive _ => rx
    | .start => s.phy.rxByte
    | .transmit _ => s.phy.rxByte
  { s with phy := { s.phy with step := none, status := code, statusKnown := true, rxByte := rxByte, polls := 0 } }

/-- `M_START_WAIT` (R150, R167). -/
def startCompleted (code : Byte) (s : State) : State :=
  if startConfirmed code then sendAddress (currentStatus s) else raiseFailure .startFailed (currentStatus s)

/-- `M_ADDR_WAIT` (R150, R167). -/
def addressCompleted (code : Byte) (s : State) : Outcome :=
  if addressAcked s.mst.mDir code then
    if s.mst.mOp = opMStart then .next (returnResult .ok s)
    else
      match s.mst.mDir with
      | .write => sendFrom 0 s
      | .read => .next (receiveFrom 0 s)
  else .next (raiseFailure .addressRejected (issueStop s))

/-- `M_TX_WAIT` (R157, R167). -/
def sendCompleted (code : Byte) (s : State) : Outcome :=
  if dataAcked code then sendFrom (s.mst.mCnt.toNat + 1) s else .next (raiseFailure .dataRejected s)

/-- `M_RX_WAIT` (R160, R167): the byte is stored whatever its status. -/
def receiveCompleted (rx : Byte) (s : State) : State :=
  let i := s.mst.mCnt.toNat
  let t := { s with inbuf := s.inbuf.write i rx }
  if i + 1 < readLen t.mst then receiveFrom (i + 1) t else readDone t

/-- A bus step completes with a status, and for a receive a byte (R126, R167).
With `M_STATE` = `M_IDLE` the step was a primitive issued by itself, and nothing follows it. -/
def completeStep (code rx : Byte) (s : State) : Outcome :=
  match s.phy.step with
  | none => .refused .noBusStep
  | some b =>
    let t := recordAnswer b code rx s
    match s.mst.mState with
    | .idle => .next t
    | .startWait => .next (startCompleted code t)
    | .addrWait => addressCompleted code t
    | .txWait => sendCompleted code t
    | .rxWait => .next (receiveCompleted rx t)

/-- A turn in which nothing completes (R126).
Without a bound nothing changes: a wait that is never answered is a hang (R237).
With a bound on a master wait, the poll that reaches it ends the command with cause Timeout and no stop (R234). -/
def poll (s : State) : State :=
  match s.waitLimit with
  | none => s
  | some n =>
    if s.mst.mState = .idle then s
    else if n ≤ s.phy.polls + 1 then
      raiseFailure .timeout { s with phy := { s.phy with step := none, polls := 0 } }
    else { s with phy := { s.phy with polls := s.phy.polls + 1 } }

/-! ### The slave engine's accesses (R64, R65) -/

/-- `SFAULT` bits are only ever set (R28). -/
def setFault (bit : BitVec 3) (s : State) : State := { s with slv := { s.slv with sfault := s.slv.sfault ||| bit } }

/-- `ArrayStore(i, v)` (R64): the bounds-checked store. -/
def arrayStore (i v : Byte) (s : State) : State :=
  if inRange i s.slv.cap then { s with array := s.array.write i.toNat v } else setFault oobSt s

/-- A byte nothing constrains: a draw (assumption 1). -/
def loadFree (s : State) : State :=
  { s with slv := { s.slv with txData := Config.freeByte s.draws }, draws := s.draws + 1 }

/-- `TX_DATA <- ArrayLoad(i)` (R65, R133).
Out of range, or in range in a cell nothing has written (R266), the byte is a free value; only the first sets the flag. -/
def loadTx (i : Byte) (s : State) : State :=
  if inRange i s.slv.cap then
    match s.array.read i.toNat with
    | some b => { s with slv := { s.slv with txData := b } }
    | none => loadFree s
  else loadFree (setFault oobLd s)

/-- The handler's writes of `INDEX` and `S_PHASE`. -/
def setCursor (i : Byte) (ph : ReceivePhase) (s : State) : State :=
  { s with slv := { s.slv with index := i, sPhase := ph } }

/-! ### Checks before an instruction -/

/-- An instruction's refusal, or else its effect. -/
def guarded (c : Option Refusal) (o : Outcome) : Outcome :=
  match c with
  | some r => .refused r
  | none => o

/-- Any foreground step (R22). -/
def foregroundCheck (s : State) : Option Refusal := if foregroundWaits s then some .foregroundBlocked else none

/-- The preconditions of every master command, in the order R170 lists them (assumption 11). -/
def masterCheck (operandsWritten : Bool) (s : State) : Option Refusal :=
  if foregroundWaits s then some .foregroundBlocked
  else if !s.clk.done then some .notConfigured
  else if s.slv.sEn then some .masterWhileSlaveEnabled
  else if !operandsWritten then some .unwrittenOperand
  else none

/-- A primitive issued by itself: nothing else runs while a master command runs (R71). -/
def standAloneCheck (s : State) : Option Refusal := if s.mst.mState ≠ .idle then some .commandRunning else none

/-- A master-side primitive issued by itself: the one before it has completed (R71).
DESIGN CHOICE, assumption 13: neither `CFG_DONE` nor `S_EN` is checked, so a bus step can be outstanding while events are
raised and handled; the spec's refusals with `S_EN` = 1 are of master commands only (R216, N8). -/
def primitiveCheck (s : State) : Option Refusal :=
  if s.mst.mState ≠ .idle then some .commandRunning
  else if s.phy.step.isSome then some .busStepOutstanding
  else none

/-- Delivery of the latched event to a row of the handler (R180, R181): the entry of the handler, which saves nothing
(R243). -/
def handlerCheck (row : Instr) (s : State) : Option Refusal :=
  if !deliverable s then some .handlerNotEnabled
  else if decodeEvt s.slv.evtStatus s.slv.sPhase ≠ row then some .rowNotSelected
  else none

end Sys2Proof.Machine
end

