-- ==== Sys2Proof/Machine/Master.lean ====
section
/-! DEFINITION. The master's commands (41_master.md). -/

namespace Sys2Proof.Machine

/-- `M_START addr, dir` (R150). -/
def execMStart (d : Direction) (s : State) : Outcome :=
  guarded (masterCheck (startOperands s.opnd) s)
    (.next (beginStart d { s with mst := { s.mst with mBusy := true, mOp := opMStart, mAddr := s.opnd.aAddr } }))

/-- `M_STOP` (R155). -/
def execMStop (s : State) : Outcome := guarded (masterCheck true s) (.next (issueStop s))

/-- What `M_WRITE` and `M_READ` latch (R157, R160, R167).
`A_ADDR` is not read when the framing does not open, so `M_ADDR` then keeps what it held (assumption 12). -/
def latchBody (op : BitVec 3) (f : Framing) (s : State) : State :=
  { s with
    mst :=
      { s.mst with
        mBusy := true, mOp := op, mAddr := if f.opens then s.opnd.aAddr else s.mst.mAddr
        mLen := s.opnd.aLen, mFraming := f, mCnt := 0#8 } }

/-- `M_WRITE addr, [bytes], framing` (R157, R158). -/
def execMWrite (f : Framing) (s : State) : Outcome :=
  guarded (masterCheck (bodyOperands f s.opnd) s)
    (if f.opens then .next (beginStart .write (latchBody opMWrite f s)) else sendFrom 0 (latchBody opMWrite f s))

/-- `M_READ addr, len, framing` (R160, R161). -/
def execMRead (f : Framing) (s : State) : Outcome :=
  guarded (masterCheck (bodyOperands f s.opnd) s)
    (if s.opnd.aLen.toNat = 0 then .refused .readLengthZero
     else if f.opens then .next (beginStart .read (latchBody opMRead f s))
     else .next (receiveFrom 0 (latchBody opMRead f s)))

/-- What `M_TRANSFER` latches, whatever its lengths (R163); `M_CNT` is written where a phase begins (R167, R9). -/
def latchTransfer (s : State) : State :=
  { s with
    mst :=
      { s.mst with
        mBusy := true, mOp := opMTransfer, mAddr := s.opnd.aAddr, mLen := s.opnd.aLen, mIlen := s.opnd.aIlen
        mRan := false, mXph := false } }

/-- `M_TRANSFER addr, [out bytes], inLen` (R163, R165). -/
def execMTransfer (s : State) : Outcome :=
  let t := latchTransfer s
  guarded (masterCheck (transferOperands s.opnd) s)
    (if s.opnd.aLen.toNat = 0 then .next (readPhase t)
     else .next (beginStart .write { t with mst := { t.mst with mRan := true, mCnt := 0#8 } }))

end Sys2Proof.Machine
end

