-- ==== Sys2Proof/Machine/System.lean ====
section
/-! DEFINITION. The system commands and the event-delivery control (43_system.md). -/

namespace Sys2Proof.Machine

/-- `CONFIGURE rate, pullups` (R210, R211). -/
def execConfigure (s : State) : Outcome :=
  guarded (foregroundCheck s)
    (if s.slv.sEn then .refused .configureWhileSlaveEnabled
     else if !configureOperands s.opnd then .refused .unwrittenOperand
     else
       let t := configureClock { s with clk := { s.clk with rate := s.opnd.aRate, pullups := s.opnd.aPullups } }
       .next { t with clk := { t.clk with done := true } })

/-- `S_START addr, capacity` (R212, R213). -/
def execSStart (s : State) : Outcome :=
  guarded (foregroundCheck s)
    (if !s.clk.done then .refused .notConfigured
     else if !slaveStartOperands s.opnd then .refused .unwrittenOperand
     else if s.opnd.aCap.toNat = 0 then .refused .capacityZero
     else
       .next (enableSlave s.opnd.aAddr
         { s with
           slv :=
             { s.slv with
               sAddr := s.opnd.aAddr, cap := s.opnd.aCap, capWritten := true, sPhase := .awaitingIndex
               ackNext := .ack, evtPending := false, sEn := true } }))

/-- `S_STOP` (R214, R215). -/
def execSStop (s : State) : Outcome :=
  guarded (foregroundCheck s)
    (let t := disableSlave { s with slv := { s.slv with sEn := false } }
     .next
       { t with
         slv := { t.slv with sPhase := .awaitingIndex, index := 0#8, evtPending := false, ackNext := .nack } })

/-- The foreground's write of `EVT_IE` (R218). -/
def writeEvtIe (b : Bool) (s : State) : State := { s with slv := { s.slv with evtIe := b } }

/-- `CLI` (R218). -/
def execCli (s : State) : Outcome := guarded (foregroundCheck s) (.next (writeEvtIe false s))

/-- `SEI` (R218). -/
def execSei (s : State) : Outcome := guarded (foregroundCheck s) (.next (writeEvtIe true s))

/-- A reserved encoding of `CMD`: no operation, refused (R107, R238). -/
def execCmdReserved (_b : Byte) (_s : State) : Outcome := .refused .reservedEncoding

end Sys2Proof.Machine
end

