-- ==== Sys2Proof/Machine/HostPort.lean ====
section
/-! DEFINITION. The host port (R219): one register or one byte cell at a time. -/

namespace Sys2Proof.Machine

/-- `HOST_RD x` (R219): no side effect (R66); the value is the model's `hostData` (assumption 5). -/
def execHostRd (x : RdTarget) (s : State) : Outcome :=
  guarded (foregroundCheck s)
    (match hostValue x s with
     | .ok v => .next { s with hostData := v }
     | .error e => .fault e)

/-- A write of `CMD` issues the command (R29, R103): the meaning of the command it decodes to. -/
def issueCommand (b : Byte) (s : State) : Outcome :=
  match decodeCmd b with
  | .configure => execConfigure s
  | .mStart d => execMStart d s
  | .mStop => execMStop s
  | .mWrite f => execMWrite f s
  | .mRead f => execMRead f s
  | .mTransfer => execMTransfer s
  | .sStart => execSStart s
  | .sStop => execSStop s
  | _ => execCmdReserved b s

/-- `HOST_WR x, v` (R219): `x` is one of the locations R52 lets the foreground write.
A write of `ARRAY` or `INDEX` may fall between any two handler runs (R74, R239): the interleaving is the script's. -/
def execHostWr (x : WrTarget) (v : HostWord) (s : State) : Outcome :=
  guarded (foregroundCheck s)
    (match x with
     | .aAddr => .next { s with opnd := writeOperand .aAddr v s.opnd }
     | .aLen => .next { s with opnd := writeOperand .aLen v s.opnd }
     | .aIlen => .next { s with opnd := writeOperand .aIlen v s.opnd }
     | .aRate => .next { s with opnd := writeOperand .aRate v s.opnd }
     | .aPullups => .next { s with opnd := writeOperand .aPullups v s.opnd }
     | .aCap => .next { s with opnd := writeOperand .aCap v s.opnd }
     | .cmd => issueCommand (v.setWidth 8) s
     | .evtIe => .next (writeEvtIe (v.getLsbD 0) s)
     | .index => .next { s with slv := { s.slv with index := v.setWidth 8 } }
     | .array i => .next { s with array := s.array.write i.toNat (v.setWidth 8) }
     | .outbuf i => .next { s with outbuf := s.outbuf.write i.toNat (v.setWidth 8) })

end Sys2Proof.Machine
end

