-- ==== Sys2Proof/Machine/Hpi.lean ====
section
/-! DEFINITION. The primitives of the physical layer as instructions (40_hpi_primitives.md): a request word at the HPI port
is that primitive by itself, the same operation the commands and the handler call (assumption 13). -/

namespace Sys2Proof.Machine

/-- `hpi.configureClock` (R120). -/
def execHpiConfigureClock (s : State) : Outcome := guarded (primitiveCheck s) (.next (configureClock s))

/-- `hpi.issueStart` (R121). -/
def execHpiIssueStart (s : State) : Outcome := guarded (primitiveCheck s) (.next (issueStart s))

/-- `hpi.issueStop` (R122). -/
def execHpiIssueStop (s : State) : Outcome := guarded (primitiveCheck s) (.next (issueStop s))

/-- `hpi.transmitByte` (R123). -/
def execHpiTransmitByte (b : Byte) (s : State) : Outcome := guarded (primitiveCheck s) (.next (transmitByte b s))

/-- `hpi.receiveByte` (R124). -/
def execHpiReceiveByte (p : AckPolicy) (s : State) : Outcome := guarded (primitiveCheck s) (.next (receiveByte p s))

/-- `hpi.currentStatus` (R125): before any bus step has completed a model that reads it faults (item U27 of 93). -/
def execHpiCurrentStatus (s : State) : Outcome :=
  guarded (standAloneCheck s)
    (if s.phy.statusKnown then .next (currentStatus s) else .fault .noCurrentStatus)

/-- `hpi.enableSlave` (R130). -/
def execHpiEnableSlave (a : BusAddr) (s : State) : Outcome :=
  guarded (standAloneCheck s) (.next (enableSlave a s))

/-- `hpi.disableSlave` (R131). -/
def execHpiDisableSlave (s : State) : Outcome := guarded (standAloneCheck s) (.next (disableSlave s))

/-- `hpi.rearm` (R134). -/
def execHpiRearm (p : AckPolicy) (stop : Bool) (s : State) : Outcome :=
  guarded (standAloneCheck s) (.next (rearm p stop s))

/-- `PHY` raises an event (R132): the latch takes the status and the byte. -/
def execPhyRaiseEvent (status rx : Byte) (s : State) : Outcome :=
  if eventAllowed s then
    .next { s with slv := { s.slv with evtStatus := status, evtRx := rx, evtPending := true } }
  else .refused .eventNotAllowed

end Sys2Proof.Machine
end

