-- ==== Sys2Proof/Machine/SlaveEngine.lean ====
section
/-! DEFINITION. The slave event handler (42_slave.md): one meaning per row of its table, over nine shared effects, and the
handler as one function (R198). -/

namespace Sys2Proof.Machine

/-! ### The effect of each row, without its delivery check -/

/-- address-matched-as-receiver (R183). -/
def rowAddressMatched (s : State) : State := rearm .ack false (setCursor 0#8 .awaitingIndex s)

/-- data-received-acked in AwaitingIndex (R184): the byte is the cursor, unchecked. -/
def rowTakeIndex (s : State) : State := rearm .ack false (setCursor s.slv.evtRx .receivingData s)

/-- data-received-acked in ReceivingData (R187): the comparison uses the incremented cursor. -/
def rowStore (s : State) : State :=
  let i := s.slv.index + 1#8
  rearm (receiveAck i s.slv.cap) false (setCursor i .receivingData (arrayStore s.slv.index s.slv.evtRx s))

/-- data-received-nacked in ReceivingData (R188). -/
def rowStoreLast (s : State) : State :=
  rearm .ack false (setCursor 0#8 .awaitingIndex (arrayStore s.slv.index s.slv.evtRx s))

/-- data-received-nacked in AwaitingIndex, the cell the source lacks (R189). -/
def rowNoCell (s : State) : State := rearm .ack false (setFault proto (setCursor 0#8 .awaitingIndex s))

/-- addressed-as-transmitter / data-transmitted-acked (R190): the phase is unchanged. -/
def rowLoad (s : State) : State :=
  let i := s.slv.index + 1#8
  rearm (transmitAck i s.slv.cap) false (setCursor i s.slv.sPhase (loadTx s.slv.index s))

/-- data-transmitted-nacked / last-data-transmitted (R191). -/
def rowEndRead (s : State) : State := rearm .ack false (setCursor 0#8 .awaitingIndex s)

/-- stop-condition-seen (R192): the cursor is left as it is. -/
def rowStop (s : State) : State := rearm .ack false (setCursor s.slv.index .awaitingIndex s)

/-- bus-error/unknown (R193): the re-arm carries the outgoing stop signal. -/
def rowRecover (s : State) : State := rearm .ack true (setFault proto (setCursor 0#8 .awaitingIndex s))

/-! ### The rows as instructions -/

/-- `EVT ST_SR_SLA_ACK`, any phase (R183). -/
def execEvtStSrSlaAck (s : State) : Outcome := guarded (handlerCheck .evtStSrSlaAck s) (.next (rowAddressMatched s))

/-- `EVT ST_SR_DATA_ACK` in AwaitingIndex (R184). -/
def execEvtStSrDataAckAwaitingIndex (s : State) : Outcome := guarded (handlerCheck .evtStSrDataAckAwaitingIndex s) (.next (rowTakeIndex s))

/-- `EVT ST_SR_DATA_ACK` in ReceivingData (R187). -/
def execEvtStSrDataAckReceivingData (s : State) : Outcome := guarded (handlerCheck .evtStSrDataAckReceivingData s) (.next (rowStore s))

/-- `EVT ST_SR_DATA_NACK` in ReceivingData (R188). -/
def execEvtStSrDataNackReceivingData (s : State) : Outcome := guarded (handlerCheck .evtStSrDataNackReceivingData s) (.next (rowStoreLast s))

/-- `EVT ST_SR_DATA_NACK` in AwaitingIndex (R189). -/
def execEvtStSrDataNackAwaitingIndex (s : State) : Outcome := guarded (handlerCheck .evtStSrDataNackAwaitingIndex s) (.next (rowNoCell s))

/-- `EVT ST_ST_SLA_ACK`, any phase (R190). -/
def execEvtStStSlaAck (s : State) : Outcome := guarded (handlerCheck .evtStStSlaAck s) (.next (rowLoad s))

/-- `EVT ST_ST_DATA_ACK`, any phase (R190). -/
def execEvtStStDataAck (s : State) : Outcome := guarded (handlerCheck .evtStStDataAck s) (.next (rowLoad s))

/-- `EVT ST_ST_DATA_NACK`, any phase (R191). -/
def execEvtStStDataNack (s : State) : Outcome := guarded (handlerCheck .evtStStDataNack s) (.next (rowEndRead s))

/-- `EVT ST_ST_LAST_DATA`, any phase (R191). -/
def execEvtStStLastData (s : State) : Outcome := guarded (handlerCheck .evtStStLastData s) (.next (rowEndRead s))

/-- `EVT ST_SR_STOP`, any phase (R192). -/
def execEvtStSrStop (s : State) : Outcome := guarded (handlerCheck .evtStSrStop s) (.next (rowStop s))

/-- `EVT ST_BUS_ERROR`, any phase (R193). -/
def execEvtStBusError (s : State) : Outcome := guarded (handlerCheck .evtStBusError s) (.next (rowRecover s))

/-- `EVT ST_START`, a master-role status at the handler (R181, R193). -/
def execEvtStStart (s : State) : Outcome := guarded (handlerCheck .evtStStart s) (.next (rowRecover s))

/-- `EVT ST_REP_START`, a master-role status at the handler (R181, R193). -/
def execEvtStRepStart (s : State) : Outcome := guarded (handlerCheck .evtStRepStart s) (.next (rowRecover s))

/-- `EVT ST_MT_SLA_ACK`, a master-role status at the handler (R181, R193). -/
def execEvtStMtSlaAck (s : State) : Outcome := guarded (handlerCheck .evtStMtSlaAck s) (.next (rowRecover s))

/-- `EVT ST_MT_SLA_NACK`, a master-role status at the handler (R181, R193). -/
def execEvtStMtSlaNack (s : State) : Outcome := guarded (handlerCheck .evtStMtSlaNack s) (.next (rowRecover s))

/-- `EVT ST_MT_DATA_ACK`, a master-role status at the handler (R181, R193). -/
def execEvtStMtDataAck (s : State) : Outcome := guarded (handlerCheck .evtStMtDataAck s) (.next (rowRecover s))

/-- `EVT ST_MT_DATA_NACK`, a master-role status at the handler (R181, R193). -/
def execEvtStMtDataNack (s : State) : Outcome := guarded (handlerCheck .evtStMtDataNack s) (.next (rowRecover s))

/-- `EVT ST_MR_SLA_ACK`, a master-role status at the handler (R181, R193). -/
def execEvtStMrSlaAck (s : State) : Outcome := guarded (handlerCheck .evtStMrSlaAck s) (.next (rowRecover s))

/-- `EVT ST_MR_SLA_NACK`, a master-role status at the handler (R181, R193). -/
def execEvtStMrSlaNack (s : State) : Outcome := guarded (handlerCheck .evtStMrSlaNack s) (.next (rowRecover s))

/-- `EVT ST_MR_DATA_ACK`, a master-role status at the handler (R181, R193). -/
def execEvtStMrDataAck (s : State) : Outcome := guarded (handlerCheck .evtStMrDataAck s) (.next (rowRecover s))

/-- `EVT ST_MR_DATA_NACK`, a master-role status at the handler (R181, R193). -/
def execEvtStMrDataNack (s : State) : Outcome := guarded (handlerCheck .evtStMrDataNack s) (.next (rowRecover s))

/-- `EVT` of class UNKNOWN (R193). -/
def execEvtUnknown (code : Byte) (s : State) : Outcome := guarded (handlerCheck (.evtUnknown code) s) (.next (rowRecover s))

/-- The whole handler as one function, from the pseudocode of R198. -/
def handler (s : State) : State :=
  let b := s.slv.evtRx
  let i := s.slv.index
  match classify s.slv.evtStatus, s.slv.sPhase with
  | .stSrSlaAck, _ => rearm .ack false (setCursor 0#8 .awaitingIndex s)
  | .stSrDataAck, .awaitingIndex => rearm .ack false (setCursor b .receivingData s)
  | .stSrDataAck, .receivingData =>
    let t := setCursor (i + 1#8) .receivingData (arrayStore i b s)
    rearm (if ¬ t.slv.index.toNat < s.slv.cap.toNat - 1 then .nack else .ack) false t
  | .stSrDataNack, .receivingData => rearm .ack false (setCursor 0#8 .awaitingIndex (arrayStore i b s))
  | .stSrDataNack, .awaitingIndex => rearm .ack false (setCursor 0#8 .awaitingIndex (setFault proto s))
  | .stStSlaAck, ph | .stStDataAck, ph =>
    let t := setCursor (i + 1#8) ph (loadTx i s)
    rearm (if ¬ t.slv.index.toNat < s.slv.cap.toNat then .nack else .ack) false t
  | .stStDataNack, _ | .stStLastData, _ => rearm .ack false (setCursor 0#8 .awaitingIndex s)
  | .stSrStop, _ => rearm .ack false (setCursor i .awaitingIndex s)
  | .stBusError, _ | .stStart, _ | .stRepStart, _ | .stMtSlaAck, _ | .stMtSlaNack, _ | .stMtDataAck, _
  | .stMtDataNack, _ | .stMrSlaAck, _ | .stMrSlaNack, _ | .stMrDataAck, _ | .stMrDataNack, _ | .unknown, _ =>
    rearm .ack true (setFault proto (setCursor 0#8 .awaitingIndex s))

end Sys2Proof.Machine
end

