-- ==== Sys2Proof/Machine/Status.lean ====
section
/-! DEFINITION. The answers of `PHY`: a waiting primitive completes with a status, and for a receive with a byte
(R95, R97, R126, R127, R167).
Each name has a meaning of its own; what a status decides is in the shared completion, by name (R169). -/

namespace Sys2Proof.Machine

/-- The outstanding bus step completes with bus-error/unknown (R97: `0x00`). -/
def execStatusStBusError (rx : Byte) (s : State) : Outcome := completeStep 0x00#8 rx s

/-- The outstanding bus step completes with start-sent (R97: `0x08`). -/
def execStatusStStart (rx : Byte) (s : State) : Outcome := completeStep 0x08#8 rx s

/-- The outstanding bus step completes with repeated-start-sent (R97: `0x10`). -/
def execStatusStRepStart (rx : Byte) (s : State) : Outcome := completeStep 0x10#8 rx s

/-- The outstanding bus step completes with address+write-acked (R97: `0x18`). -/
def execStatusStMtSlaAck (rx : Byte) (s : State) : Outcome := completeStep 0x18#8 rx s

/-- The outstanding bus step completes with address+write-nacked (R97: `0x20`). -/
def execStatusStMtSlaNack (rx : Byte) (s : State) : Outcome := completeStep 0x20#8 rx s

/-- The outstanding bus step completes with data-sent-acked (R97: `0x28`). -/
def execStatusStMtDataAck (rx : Byte) (s : State) : Outcome := completeStep 0x28#8 rx s

/-- The outstanding bus step completes with data-sent-nacked (R97: `0x30`). -/
def execStatusStMtDataNack (rx : Byte) (s : State) : Outcome := completeStep 0x30#8 rx s

/-- The outstanding bus step completes with address+read-acked (R97: `0x40`). -/
def execStatusStMrSlaAck (rx : Byte) (s : State) : Outcome := completeStep 0x40#8 rx s

/-- The outstanding bus step completes with address+read-nacked (R97: `0x48`). -/
def execStatusStMrSlaNack (rx : Byte) (s : State) : Outcome := completeStep 0x48#8 rx s

/-- The outstanding bus step completes with data received by the master, acknowledge returned (R97: `0x50`). -/
def execStatusStMrDataAck (rx : Byte) (s : State) : Outcome := completeStep 0x50#8 rx s

/-- The outstanding bus step completes with data received by the master, no-acknowledge returned (R97: `0x58`). -/
def execStatusStMrDataNack (rx : Byte) (s : State) : Outcome := completeStep 0x58#8 rx s

/-- The outstanding bus step completes with address-matched-as-receiver (R97: `0x60`). -/
def execStatusStSrSlaAck (rx : Byte) (s : State) : Outcome := completeStep 0x60#8 rx s

/-- The outstanding bus step completes with data-received-acked (R97: `0x80`). -/
def execStatusStSrDataAck (rx : Byte) (s : State) : Outcome := completeStep 0x80#8 rx s

/-- The outstanding bus step completes with data-received-nacked (R97: `0x88`). -/
def execStatusStSrDataNack (rx : Byte) (s : State) : Outcome := completeStep 0x88#8 rx s

/-- The outstanding bus step completes with stop-condition-seen (R97: `0xA0`). -/
def execStatusStSrStop (rx : Byte) (s : State) : Outcome := completeStep 0xA0#8 rx s

/-- The outstanding bus step completes with addressed-as-transmitter (R97: `0xA8`). -/
def execStatusStStSlaAck (rx : Byte) (s : State) : Outcome := completeStep 0xA8#8 rx s

/-- The outstanding bus step completes with data-transmitted-acked (R97: `0xB8`). -/
def execStatusStStDataAck (rx : Byte) (s : State) : Outcome := completeStep 0xB8#8 rx s

/-- The outstanding bus step completes with data-transmitted-nacked (R97: `0xC0`). -/
def execStatusStStDataNack (rx : Byte) (s : State) : Outcome := completeStep 0xC0#8 rx s

/-- The outstanding bus step completes with last-data-transmitted (R97: `0xC8`). -/
def execStatusStStLastData (rx : Byte) (s : State) : Outcome := completeStep 0xC8#8 rx s

/-- The outstanding bus step completes with a value of class UNKNOWN (R96). -/
def execStatusUnknown (code rx : Byte) (s : State) : Outcome := completeStep code rx s

end Sys2Proof.Machine
end

