-- ==== Sys2Proof/Machine/Dispatch.lean ====
section
/-! DEFINITION. exec: one arm per constructor of Instr, each one direct call of its meaning. -/

namespace Sys2Proof.Machine

def exec (i : Instr) (s : State) : Host.Outcome State Fault Refusal :=
  match i with
  | .configure => Sys2Proof.Machine.execConfigure s
  | .mStart d => Sys2Proof.Machine.execMStart d s
  | .mStop => Sys2Proof.Machine.execMStop s
  | .mWrite f => Sys2Proof.Machine.execMWrite f s
  | .mRead f => Sys2Proof.Machine.execMRead f s
  | .mTransfer => Sys2Proof.Machine.execMTransfer s
  | .sStart => Sys2Proof.Machine.execSStart s
  | .sStop => Sys2Proof.Machine.execSStop s
  | .cmdReserved b => Sys2Proof.Machine.execCmdReserved b s
  | .statusStBusError rx => Sys2Proof.Machine.execStatusStBusError rx s
  | .statusStStart rx => Sys2Proof.Machine.execStatusStStart rx s
  | .statusStRepStart rx => Sys2Proof.Machine.execStatusStRepStart rx s
  | .statusStMtSlaAck rx => Sys2Proof.Machine.execStatusStMtSlaAck rx s
  | .statusStMtSlaNack rx => Sys2Proof.Machine.execStatusStMtSlaNack rx s
  | .statusStMtDataAck rx => Sys2Proof.Machine.execStatusStMtDataAck rx s
  | .statusStMtDataNack rx => Sys2Proof.Machine.execStatusStMtDataNack rx s
  | .statusStMrSlaAck rx => Sys2Proof.Machine.execStatusStMrSlaAck rx s
  | .statusStMrSlaNack rx => Sys2Proof.Machine.execStatusStMrSlaNack rx s
  | .statusStMrDataAck rx => Sys2Proof.Machine.execStatusStMrDataAck rx s
  | .statusStMrDataNack rx => Sys2Proof.Machine.execStatusStMrDataNack rx s
  | .statusStSrSlaAck rx => Sys2Proof.Machine.execStatusStSrSlaAck rx s
  | .statusStSrDataAck rx => Sys2Proof.Machine.execStatusStSrDataAck rx s
  | .statusStSrDataNack rx => Sys2Proof.Machine.execStatusStSrDataNack rx s
  | .statusStSrStop rx => Sys2Proof.Machine.execStatusStSrStop rx s
  | .statusStStSlaAck rx => Sys2Proof.Machine.execStatusStStSlaAck rx s
  | .statusStStDataAck rx => Sys2Proof.Machine.execStatusStStDataAck rx s
  | .statusStStDataNack rx => Sys2Proof.Machine.execStatusStStDataNack rx s
  | .statusStStLastData rx => Sys2Proof.Machine.execStatusStStLastData rx s
  | .statusUnknown code rx => Sys2Proof.Machine.execStatusUnknown code rx s
  | .evtStSrSlaAck => Sys2Proof.Machine.execEvtStSrSlaAck s
  | .evtStSrDataAckAwaitingIndex => Sys2Proof.Machine.execEvtStSrDataAckAwaitingIndex s
  | .evtStSrDataAckReceivingData => Sys2Proof.Machine.execEvtStSrDataAckReceivingData s
  | .evtStSrDataNackReceivingData => Sys2Proof.Machine.execEvtStSrDataNackReceivingData s
  | .evtStSrDataNackAwaitingIndex => Sys2Proof.Machine.execEvtStSrDataNackAwaitingIndex s
  | .evtStStSlaAck => Sys2Proof.Machine.execEvtStStSlaAck s
  | .evtStStDataAck => Sys2Proof.Machine.execEvtStStDataAck s
  | .evtStStDataNack => Sys2Proof.Machine.execEvtStStDataNack s
  | .evtStStLastData => Sys2Proof.Machine.execEvtStStLastData s
  | .evtStSrStop => Sys2Proof.Machine.execEvtStSrStop s
  | .evtStBusError => Sys2Proof.Machine.execEvtStBusError s
  | .evtStStart => Sys2Proof.Machine.execEvtStStart s
  | .evtStRepStart => Sys2Proof.Machine.execEvtStRepStart s
  | .evtStMtSlaAck => Sys2Proof.Machine.execEvtStMtSlaAck s
  | .evtStMtSlaNack => Sys2Proof.Machine.execEvtStMtSlaNack s
  | .evtStMtDataAck => Sys2Proof.Machine.execEvtStMtDataAck s
  | .evtStMtDataNack => Sys2Proof.Machine.execEvtStMtDataNack s
  | .evtStMrSlaAck => Sys2Proof.Machine.execEvtStMrSlaAck s
  | .evtStMrSlaNack => Sys2Proof.Machine.execEvtStMrSlaNack s
  | .evtStMrDataAck => Sys2Proof.Machine.execEvtStMrDataAck s
  | .evtStMrDataNack => Sys2Proof.Machine.execEvtStMrDataNack s
  | .evtUnknown code => Sys2Proof.Machine.execEvtUnknown code s
  | .hpiConfigureClock => Sys2Proof.Machine.execHpiConfigureClock s
  | .hpiIssueStart => Sys2Proof.Machine.execHpiIssueStart s
  | .hpiIssueStop => Sys2Proof.Machine.execHpiIssueStop s
  | .hpiTransmitByte b => Sys2Proof.Machine.execHpiTransmitByte b s
  | .hpiReceiveByte policy => Sys2Proof.Machine.execHpiReceiveByte policy s
  | .hpiCurrentStatus => Sys2Proof.Machine.execHpiCurrentStatus s
  | .hpiEnableSlave addr => Sys2Proof.Machine.execHpiEnableSlave addr s
  | .hpiDisableSlave => Sys2Proof.Machine.execHpiDisableSlave s
  | .hpiRearm policy stop => Sys2Proof.Machine.execHpiRearm policy stop s
  | .phyRaiseEvent status rx => Sys2Proof.Machine.execPhyRaiseEvent status rx s
  | .cli => Sys2Proof.Machine.execCli s
  | .sei => Sys2Proof.Machine.execSei s
  | .hostRd x => Sys2Proof.Machine.execHostRd x s
  | .hostWr x v => Sys2Proof.Machine.execHostWr x v s

end Sys2Proof.Machine
end

