-- ==== Sys2Proof/Machine/Fetch.lean ====
section
/-! DEFINITION. Where the next instruction comes from, and how a word is put there. -/

namespace Sys2Proof.Machine

/-- The word the handler dispatches on: the latched status (R106, R180). -/
def evtWord (s : State) : InWord := ⟨.evt, s.slv.evtStatus.setWidth 32, 0#16⟩

/-- The word a turn brings to its port; a turn nobody takes brings none. -/
def turnWord (t : Turn) (s : State) : Option InWord :=
  match t with
  | .word w => some w
  | .deliver => some (evtWord s)
  | .idle => none

/-- Puts a word where the very next step fetches it.
An event is fetched from the latch of an enabled slave role, in the receive phase the untagged word stands for
(assumption 2); every other word is the next turn of the script. -/
def placeWord (w : InWord) (s : State) : State :=
  match w.port with
  | .evt =>
    { s with
      script := .deliver :: s.script
      slv :=
        { s.slv with
          sEn := true, evtIe := true, evtPending := true, evtStatus := w.word.setWidth 8, sPhase := .awaitingIndex } }
  | .cmd | .status | .hpi | .phyEvent | .fgIe | .hostRd | .hostWr => { s with script := .word w :: s.script }

end Sys2Proof.Machine
end

