-- ==== Sys2Proof/Machine/Step.lean ====
section
/-! DEFINITION. One step of the machine: the next turn of the script.
The script is the interleaving of the agents of R6: which foreground step, which answer or event of `PHY`, or which handler
run comes next (R73, R241).
A claim about every state is a claim about every script, so about every order and every answer. -/

namespace Sys2Proof.Machine

/-- One turn (R11).
An empty script is `PHY` never answering and the foreground taking no step: nothing happens (R237). -/
def step (s : State) : Host.Outcome State Fault Refusal :=
  match s.script with
  | [] => .next (poll s)
  | t :: rest =>
    match turnWord t s with
    | none => .next (poll { s with script := rest })
    | some w =>
      match decode s.slv.sPhase w with
      | .ok i => exec i { s with script := rest }
      | .error e => .refused (.undecodable e)

/-- The state whose next step runs a word of the table (assumptions 2 and 4). -/
def State.withFetchWord (s : State) (nbits w : Nat) : State := placeWord (tableWord nbits w) s

end Sys2Proof.Machine
end

