-- ==== Sys2Proof/Safety.lean ====
section
/-! DEFINITION. What counts as a sane state and a safe run, in the terms the statements use. -/

namespace Sys2Proof.Machine

/-! ### When an instruction may run -/

/-- The foreground can step (R22). -/
abbrev ForegroundReady (s : State) : Prop := s.mst.mState = .idle ∧ s.phy.step = none

/-- The preconditions of a master command, but for its operand registers (R170). -/
abbrev MasterReady (s : State) : Prop := ForegroundReady s ∧ s.clk.done = true ∧ s.slv.sEn = false

/-- The handler may run (R180), on this latched status (R181). -/
abbrev Delivers (s : State) (code : Byte) : Prop :=
  s.slv.sEn = true ∧ s.slv.evtIe = true ∧ s.slv.evtPending = true ∧ s.slv.evtStatus = code

/-- No fault of the slave engine is recorded: no bit of `SFAULT` is set (R28). -/
abbrev NoFaultRecorded (s : State) : Prop := s.slv.sfault = 0#3

/-- No fault in the strict sense is recorded: `OOB_ST` and `OOB_LD` are clear.
R236 makes it the premise of every claim, and lets a model take `PROTO` as plain state (assumption 16); `NoFaultRecorded`
implies it. -/
abbrev NoStrictFaultRecorded (s : State) : Prop := s.slv.sfault.getLsbD 0 = false ∧ s.slv.sfault.getLsbD 1 = false

/-! ### Groups of instructions -/

/-- The twenty rows in which `PHY` answers the outstanding bus step: the status byte of R97 and the byte a receive brings. -/
def statusRow : Instr → Option (Byte × Byte)
  | .statusStBusError rx => some (0x00#8, rx)
  | .statusStStart rx => some (0x08#8, rx)
  | .statusStRepStart rx => some (0x10#8, rx)
  | .statusStMtSlaAck rx => some (0x18#8, rx)
  | .statusStMtSlaNack rx => some (0x20#8, rx)
  | .statusStMtDataAck rx => some (0x28#8, rx)
  | .statusStMtDataNack rx => some (0x30#8, rx)
  | .statusStMrSlaAck rx => some (0x40#8, rx)
  | .statusStMrSlaNack rx => some (0x48#8, rx)
  | .statusStMrDataAck rx => some (0x50#8, rx)
  | .statusStMrDataNack rx => some (0x58#8, rx)
  | .statusStSrSlaAck rx => some (0x60#8, rx)
  | .statusStSrDataAck rx => some (0x80#8, rx)
  | .statusStSrDataNack rx => some (0x88#8, rx)
  | .statusStSrStop rx => some (0xA0#8, rx)
  | .statusStStSlaAck rx => some (0xA8#8, rx)
  | .statusStStDataAck rx => some (0xB8#8, rx)
  | .statusStStDataNack rx => some (0xC0#8, rx)
  | .statusStStLastData rx => some (0xC8#8, rx)
  | .statusUnknown code rx => some (code, rx)
  | _ => none

/-- The twenty-two rows of the handler. -/
def isRow : Instr → Bool
  | .evtStSrSlaAck | .evtStSrDataAckAwaitingIndex | .evtStSrDataAckReceivingData | .evtStSrDataNackReceivingData
  | .evtStSrDataNackAwaitingIndex | .evtStStSlaAck | .evtStStDataAck | .evtStStDataNack | .evtStStLastData
  | .evtStSrStop | .evtStBusError | .evtStStart | .evtStRepStart | .evtStMtSlaAck | .evtStMtSlaNack | .evtStMtDataAck
  | .evtStMtDataNack | .evtStMrSlaAck | .evtStMrSlaNack | .evtStMrDataAck | .evtStMrDataNack | .evtUnknown _ => true
  | _ => false

/-- The twelve rows of bus-error/unknown (R193) with the status that selects each. -/
def recoveryRow : Instr → Option Byte
  | .evtStBusError => some 0x00#8
  | .evtStStart => some 0x08#8
  | .evtStRepStart => some 0x10#8
  | .evtStMtSlaAck => some 0x18#8
  | .evtStMtSlaNack => some 0x20#8
  | .evtStMtDataAck => some 0x28#8
  | .evtStMtDataNack => some 0x30#8
  | .evtStMrSlaAck => some 0x40#8
  | .evtStMrSlaNack => some 0x48#8
  | .evtStMrDataAck => some 0x50#8
  | .evtStMrDataNack => some 0x58#8
  | .evtUnknown code => some code
  | _ => none

/-- The steps only the foreground takes (R221): commands, `CLI`, `SEI`, host accesses. -/
def isForegroundStep : Instr → Bool
  | .configure | .mStart _ | .mStop | .mWrite _ | .mRead _ | .mTransfer | .sStart | .sStop | .cmdReserved _
  | .cli | .sei | .hostRd _ | .hostWr _ _ => true
  | _ => false

/-! ### Sane states -/

/-- What each value of `M_STATE` says of the running command (R21, R23): which primitive is outstanding, for which command,
in which direction, and which byte of which buffer. -/
def Sequenced (s : State) : Prop :=
  let m := s.mst
  match m.mState with
  | .idle => True
  | .startWait =>
    s.phy.step = some .start ∧
      (m.mOp = 1#3 ∨ (m.mOp = 3#3 ∧ m.mDir = .write) ∨ (m.mOp = 4#3 ∧ m.mDir = .read ∧ 0 < m.mLen.toNat) ∨
        (m.mOp = 5#3 ∧ m.mRan = true ∧
          ((m.mXph = false ∧ m.mDir = .write) ∨ (m.mXph = true ∧ m.mDir = .read ∧ 0 < m.mIlen.toNat))))
  | .addrWait =>
    s.phy.step = some (.transmit (m.mAddr ++ BitVec.ofBool m.mDir.bit)) ∧
      (m.mOp = 1#3 ∨ (m.mOp = 3#3 ∧ m.mDir = .write) ∨ (m.mOp = 4#3 ∧ m.mDir = .read ∧ 0 < m.mLen.toNat) ∨
        (m.mOp = 5#3 ∧ m.mRan = true ∧
          ((m.mXph = false ∧ m.mDir = .write) ∨ (m.mXph = true ∧ m.mDir = .read ∧ 0 < m.mIlen.toNat))))
  | .txWait =>
    (∃ b, s.phy.step = some (.transmit b) ∧ s.outbuf.read m.mCnt.toNat = some b) ∧ m.mCnt.toNat < m.mLen.toNat ∧
      (m.mOp = 3#3 ∨ (m.mOp = 5#3 ∧ m.mRan = true ∧ m.mXph = false))
  | .rxWait =>
    (m.mOp = 4#3 ∧ m.mCnt.toNat < m.mLen.toNat ∧
        s.phy.step = some (.receive (if m.mCnt.toNat = m.mLen.toNat - 1 then .nack else .ack))) ∨
      (m.mOp = 5#3 ∧ m.mRan = true ∧ m.mXph = true ∧ m.mCnt.toNat < m.mIlen.toNat ∧
        s.phy.step = some (.receive (if m.mCnt.toNat = m.mIlen.toNat - 1 then .nack else .ack)))

/-- The invariant of the block: the three memories are canonical; `M_BUSY` says that a command runs (R22, R168); the
sequencer waits for the primitive its state names (R21, R23); only one role runs (R216); a running role was configured
(R170, R213); the capacity of an enabled slave is at least 1 (R34); an event is pending only while the role is enabled
(R132, R214). -/
structure Inv (s : State) : Prop where
  array_wf : s.array.wf = true
  outbuf_wf : s.outbuf.wf = true
  inbuf_wf : s.inbuf.wf = true
  busy : s.mst.mBusy = true ↔ s.mst.mState ≠ .idle
  sequenced : Sequenced s
  one_role : s.slv.sEn = true → s.mst.mState = .idle
  configured : s.slv.sEn = true ∨ s.mst.mState ≠ .idle → s.clk.done = true
  capacity : s.slv.sEn = true → 1 ≤ s.slv.cap.toNat
  pending : s.slv.evtPending = true → s.slv.sEn = true

/-- What every step keeps: the invariant, unless a fault in the strict sense is recorded (R236). -/
abbrev InvUnlessFault (s : State) : Prop := NoStrictFaultRecorded s → Inv s

/-! ### Runs of a command and of a bus session, as lists of what `PHY` does -/

/-- The answers of `PHY`, one after another, to what an instruction answered: each is the status, and the byte of a
receive. -/
def answered : List (Byte × Byte) → Outcome → Outcome
  | [], o => o
  | (code, rx) :: as, .next s => answered as (exec (decodeStatus code rx) s)
  | _ :: _, .fault r => .fault r
  | _ :: _, .refused r => .refused r

/-- Answers until the running command has returned, and the answers left over. -/
def drive : List (Byte × Byte) → State → State × List (Byte × Byte)
  | [], s => (s, [])
  | a :: as, s =>
    if s.mst.mState = .idle then (s, a :: as)
    else
      match exec (decodeStatus a.1 a.2) s with
      | .next t => drive as t
      | .fault _ => (s, a :: as)
      | .refused _ => (s, a :: as)

/-- One event of a remote master, raised and delivered: `PHY` raises the status with its byte, then the handler runs the row
it selects. -/
def event (code rx : Byte) (s : State) : Outcome :=
  match exec (.phyRaiseEvent code rx) s with
  | .next t => exec (decodeEvt t.slv.evtStatus t.slv.sPhase) t
  | .fault r => .fault r
  | .refused r => .refused r

/-- Data bytes of a write session against a `PHY` that honours `ACK_NEXT` (R137): each arrives as data-received-acked while
`ACK_NEXT` is Ack, else as data-received-nacked, after which none follows. -/
def dataBytes : List Byte → State → Outcome
  | [], s => .next s
  | d :: ds, s =>
    match s.slv.ackNext with
    | .ack =>
      match event 0x80#8 d s with
      | .next t => dataBytes ds t
      | .fault r => .fault r
      | .refused r => .refused r
    | .nack => event 0x88#8 d s

/-- A write session (R194): the address match, the offset byte, then data bytes. -/
def writeSession (r idx : Byte) (ds : List Byte) (s : State) : Outcome :=
  match event 0x60#8 r s with
  | .next t =>
    match event 0x80#8 idx t with
    | .next u => dataBytes ds u
    | .fault e => .fault e
    | .refused e => .refused e
  | .fault e => .fault e
  | .refused e => .refused e

/-- The bytes a read session supplies (R195): addressed-as-transmitter (`first`), then data-transmitted-acked for each
further byte; the list is `TX_DATA` after each event. -/
def supplied (first : Bool) (r : Byte) : Nat → State → List Byte × Outcome
  | 0, s => ([], .next s)
  | n + 1, s =>
    match event (if first then 0xA8#8 else 0xB8#8) r s with
    | .next t => let (bs, o) := supplied false r n t; (t.slv.txData :: bs, o)
    | .fault e => ([], .fault e)
    | .refused e => ([], .refused e)

/-- The commands R166 compares `M_TRANSFER a, n, m` with, under the same answers: `M_WRITE a, OUTBUF[0..n-1], Start`, then
`M_READ a, m, Start` (for which the foreground sets `A_LEN` to `m`), then `M_STOP`, stopping at the first failure.
It yields the last state, whether the result is success, and the answers left over. -/
def simplerCommands (s : State) (as : List (Byte × Byte)) : State × CmdResult × List (Byte × Byte) :=
  let issue (i : Instr) (s : State) (as : List (Byte × Byte)) : State × List (Byte × Byte) :=
    match exec i s with
    | .next t => drive as t
    | .fault _ => (s, as)
    | .refused _ => (s, as)
  let n := s.opnd.aLen.toNat
  let m := s.opnd.aIlen.toNat
  let (s1, as1) := if 0 < n then issue (.mWrite .start) s as else (s, as)
  if 0 < n ∧ s1.mst.result = .fail then (s1, .fail, as1)
  else
    let (s2, as2) :=
      if 0 < m then issue (.mRead .start) { s1 with opnd := { s1.opnd with aLen := s.opnd.aIlen } } as1 else (s1, as1)
    if 0 < m ∧ s2.mst.result = .fail then (s2, .fail, as2)
    else if 0 < n ∨ 0 < m then ((issue .mStop s2 as2).1, .ok, as2)
    else (s2, .ok, as2)

/-- The bus as the trace shows it (R46): a start has been requested and no stop since. -/
def heldOpen : List TraceEntry → Bool
  | [] => false
  | .issueStart :: _ => true
  | .issueStop :: _ => false
  | .configureClock _ _ :: rest | .transmitByte _ :: rest | .receiveByte _ :: rest | .currentStatus _ :: rest
  | .enableSlave _ :: rest | .disableSlave :: rest | .rearm _ _ :: rest | .raised _ :: rest => heldOpen rest

end Sys2Proof.Machine
end

