-- ==== Sys2Proof/Certificates/Slice0/Obligations.lean ====
section
/-! DEFINITION. The statements for the provers, each from the rules of spec/ it names.
A statement about a next state takes R236's premise: no fault in the strict sense is recorded in the state it starts from or in
the state it ends in, which the sticky bits carry back to the start (FaultBitsAreSticky, FaultFreeRunsStayInsideTheFile).
The statements that need none are about encodings, stops, reset, how a step reaches exec, and the record itself. -/

open Sys2Proof Sys2Proof.Machine

/-! ### Reset and the encodings -/

/-- R260 (the control state it gives values; the cells and operands it gives none): no command runs, nothing is configured,
the slave role is off, no event and no fault, delivery is on; no cell holds a byte and no operand register counts as written;
a host read of `RESULT` or `CAP` faults. -/
def Obligations.ResetLeavesTheBlockIdle : Prop :=
  let r := State.reset
  r.mst.mState = .idle ∧ r.mst.mBusy = false ∧ r.mst.resultValid = false ∧ r.clk.done = false ∧ r.slv.sEn = false ∧
  r.slv.sPhase = .awaitingIndex ∧ r.slv.index = 0#8 ∧ r.slv.ackNext = .nack ∧ r.slv.evtPending = false ∧
  r.slv.evtIe = true ∧ r.slv.sfault = 0b000#3 ∧
  (∀ a, r.array.read a = none ∧ r.outbuf.read a = none ∧ r.inbuf.read a = none) ∧
  r.opnd.addrWritten = false ∧ r.opnd.lenWritten = false ∧ r.opnd.ilenWritten = false ∧ r.opnd.rateWritten = false ∧
  r.opnd.pullupsWritten = false ∧ r.opnd.capWritten = false ∧
  exec (.hostRd .result) r = .fault (.unwrittenRegister .result) ∧
  exec (.hostRd .cap) r = .fault (.unwrittenRegister .cap)

/-- R97, R103, R110, R218: words written out from the encoding tables decode to the rows they stand for.
(That an answer's received byte stands beside its word is the model's transport, assumption 3.) -/
def Obligations.WordsOfTheSpecDecode : Prop :=
  decode .awaitingIndex ⟨.cmd, 0b00000000#32, 0#16⟩ = .ok .configure ∧
  decode .awaitingIndex ⟨.cmd, 0b00001001#32, 0#16⟩ = .ok (.mStart .read) ∧
  decode .awaitingIndex ⟨.cmd, 0b00110011#32, 0#16⟩ = .ok (.mWrite .startAndStop) ∧
  decode .awaitingIndex ⟨.cmd, 0b00100100#32, 0#16⟩ = .ok (.mRead .stop) ∧
  decode .awaitingIndex ⟨.cmd, 0b00001010#32, 0#16⟩ = .ok (.cmdReserved 0x0A#8) ∧
  decode .awaitingIndex ⟨.status, 0b01000000#32, 0x7E#16⟩ = .ok (.statusStMrSlaAck 0x7E#8) ∧
  decode .receivingData ⟨.evt, 0b10000000#32, 0#16⟩ = .ok .evtStSrDataAckReceivingData ∧
  decode .awaitingIndex ⟨.evt, 0b11111000#32, 0#16⟩ = .ok (.evtUnknown 0xF8#8) ∧
  decode .awaitingIndex ⟨.hpi, 0b001110100000#32, 0#16⟩ = .ok (.hpiTransmitByte 0xA0#8) ∧
  decode .awaitingIndex ⟨.hpi, 0b100000000011#32, 0#16⟩ = .ok (.hpiRearm .ack true) ∧
  decode .awaitingIndex ⟨.fgIe, 0b1#32, 0#16⟩ = .ok .sei

/-- R97, R103, R110: no bit of an instruction is dropped by its encoding, for every instruction and every operand.
(The ports, the operands beside a word and the numbers of the host port's locations are the model's, assumptions 2 and 3.) -/
def Obligations.DecodingAnEncodedInstructionGivesItBack : Prop :=
  ∀ (i : Instr) (ph : ReceivePhase), i.wf = true → i.inPhase ph = true → decode ph (encode i) = .ok i

/-- R96, R107, R181: whatever the decoder accepts is a well-formed instruction, in a receive phase that selects it.
(The words of the host port are the model's, assumption 3.) -/
def Obligations.DecodedInstructionsAreWellFormed : Prop :=
  ∀ (ph : ReceivePhase) (w : InWord) (i : Instr), decode ph w = .ok i → i.wf = true ∧ i.inPhase ph = true

/-- R107: a command byte is reserved exactly when a reserved bit is set, or `DIR` is set for another opcode than 1, or
`FRAMING` is not 0 for another opcode than 3 and 4; and exactly fifteen values are legal. -/
def Obligations.ReservedCommandBytes : Prop :=
  (∀ b : Byte, decodeCmd b = .cmdReserved b ↔
    (b.getLsbD 6 = true ∨ b.getLsbD 7 = true ∨ (b.getLsbD 3 = true ∧ b.extractLsb' 0 3 ≠ 1#3) ∨
      (b.extractLsb' 4 2 ≠ 0#2 ∧ b.extractLsb' 0 3 ≠ 3#3 ∧ b.extractLsb' 0 3 ≠ 4#3))) ∧
  (∀ b : Byte, decodeCmd b ≠ .cmdReserved b ↔
    b ∈ [0x00#8, 0x01#8, 0x09#8, 0x02#8, 0x03#8, 0x13#8, 0x23#8, 0x33#8, 0x04#8, 0x14#8, 0x24#8, 0x34#8, 0x05#8, 0x06#8,
      0x07#8]) ∧
  ∀ (b : Byte) (s : State), exec (.cmdReserved b) s = .refused .reservedEncoding

/-- R96, R97: a status byte is one of the nineteen named values or of class UNKNOWN, and no two named values share a name. -/
def Obligations.ClassificationIsTotalAndInjective : Prop :=
  (∀ b : Byte, classify b ≠ .unknown ↔
    b ∈ [0x00#8, 0x08#8, 0x10#8, 0x18#8, 0x20#8, 0x28#8, 0x30#8, 0x40#8, 0x48#8, 0x50#8, 0x58#8, 0x60#8, 0x80#8, 0x88#8,
      0xA0#8, 0xA8#8, 0xB8#8, 0xC0#8, 0xC8#8]) ∧
  ∀ a b : Byte, classify a ≠ .unknown → classify a = classify b → a = b

/-- R90, R91: the address byte is the address shifted by one, with the direction bit 0 for Write and 1 for Read. -/
def Obligations.AddressByteCarriesDirectionInBitZero : Prop :=
  ∀ a : BusAddr, addrByte a .write = (a.setWidth 8 <<< 1) ||| 0#8 ∧ addrByte a .read = (a.setWidth 8 <<< 1) ||| 1#8

/-! ### The step -/

/-- The model's own step (DESIGN CHOICE, assumption 4: the interleaving of R73 and R241 is a script of turns; assumptions 2 and
3: words and ports): when the next turn brings a word to a port and it decodes, the step is exec of that instruction with the
turn taken off the script, a delivery being the word of the latched status; a word that decodes to nothing is refused. -/
def Obligations.StepRunsTheDecodedInstruction : Prop :=
  (∀ (s : State) (t : Turn) (rest : List Turn) (w : InWord) (i : Instr), s.script = t :: rest → turnWord t s = some w →
    decode s.slv.sPhase w = .ok i → step s = exec i { s with script := rest }) ∧
  (∀ (s : State) (t : Turn) (rest : List Turn) (w : InWord) (e : DecodeError), s.script = t :: rest →
    turnWord t s = some w → decode s.slv.sPhase w = .error e → step s = .refused (.undecodable e)) ∧
  (∀ (s : State) (rest : List Turn) (i : Instr), s.script = .deliver :: rest →
    decode s.slv.sPhase ⟨.evt, s.slv.evtStatus.setWidth 32, 0#16⟩ = .ok i → step s = exec i { s with script := rest })

/-- R126, R237: a wait that `PHY` never answers is a hang: with no bound on waits, after any number of turns that nobody takes
(and after the script has run out, which stands for the same, assumption 4) only the script is shorter: `M_STATE`, `M_BUSY`,
the outstanding step and everything else are what they were.
(Premise of R236: `NoStrictFaultRecorded`.) -/
def Obligations.UnansweredWaitHangs : Prop :=
  ∀ (s : State) (k : Nat), NoStrictFaultRecorded s → s.waitLimit = none → (∀ turn ∈ s.script, turn = .idle) →
    Sys2Proof.core.run k s = .next { s with script := s.script.drop k }

/-- R234: with a finite bound, the poll that reaches it ends the command with FAIL, cause Timeout, and no stop; a poll before
it only counts.
(That the abandoned step is no longer awaited is the model's choice, assumption 6.)
(Premise of R236: `NoStrictFaultRecorded`.) -/
def Obligations.BoundedWaitEndsWithTimeout : Prop :=
  ∀ (s : State) (n : Nat) (rest : List Turn), NoStrictFaultRecorded s → s.mst.mState ≠ .idle → s.waitLimit = some n →
    s.script = .idle :: rest →
    (n ≤ s.phy.polls + 1 → step s = .next { s with
      script := rest
      mst := { s.mst with result := .fail, resultValid := true, mBusy := false, mState := .idle }
      phy := { s.phy with step := none, polls := 0 }
      trace := .raised .timeout :: s.trace }) ∧
    (s.phy.polls + 1 < n → step s = .next { s with script := rest, phy := { s.phy with polls := s.phy.polls + 1 } })

/-- R22, R126: while a master command runs, and while a waiting primitive issued by itself has not completed, the foreground takes
no step.
(Primitives issued by themselves are the model's, assumption 13; so are the refusal's name and that it comes before every
other one, assumption 11.) -/
def Obligations.ForegroundIsBlockedWhileItWaits : Prop :=
  ∀ (i : Instr) (s : State), isForegroundStep i = true → (∀ b, i ≠ .cmdReserved b) →
    (s.mst.mState ≠ .idle ∨ s.phy.step ≠ none) → exec i s = .refused .foregroundBlocked

/-! ### System commands -/

/-- R210, R211: `CONFIGURE` stores the rate and the bias, hands them to the HPI and records that it ran; with the slave role
enabled it is refused.
(Premise of R236: `NoStrictFaultRecorded`.) -/
def Obligations.ConfigureStoresAndForwards : Prop :=
  ∀ s : State, NoStrictFaultRecorded s → ForegroundReady s →
    (s.slv.sEn = true → exec .configure s = .refused .configureWhileSlaveEnabled) ∧
    (s.slv.sEn = false → s.opnd.rateWritten = true → s.opnd.pullupsWritten = true →
      exec .configure s = .next { s with
        clk := { rate := s.opnd.aRate, pullups := s.opnd.aPullups, done := true }
        trace := .configureClock s.opnd.aRate s.opnd.aPullups :: s.trace })

/-- R212, R213: `S_START` binds address and capacity, starts in AwaitingIndex acknowledging, drops a pending event, enables
the role, also while it is enabled, and leaves `INDEX` and `ARRAY`.
(Premise of R236: `NoStrictFaultRecorded`.) -/
def Obligations.SlaveStartBindsAndEnables : Prop :=
  ∀ s : State, NoStrictFaultRecorded s → ForegroundReady s → s.clk.done = true → s.opnd.addrWritten = true →
    s.opnd.capWritten = true →
    (s.opnd.aCap = 0#8 → exec .sStart s = .refused .capacityZero) ∧
    (s.opnd.aCap ≠ 0#8 → exec .sStart s = .next { s with
      slv := { s.slv with
        sAddr := s.opnd.aAddr, cap := s.opnd.aCap, capWritten := true, sPhase := .awaitingIndex, ackNext := .ack
        evtPending := false, sEn := true }
      phy := { s.phy with listening := true }
      trace := .enableSlave s.opnd.aAddr :: s.trace })

/-- R214, R215: `S_STOP` disables the role, resets phase and cursor, drops a pending event and leaves the rest, enabled or
not, configured or not.
(Premise of R236: `NoStrictFaultRecorded`.) -/
def Obligations.SlaveStopResetsTheSession : Prop :=
  ∀ s : State, NoStrictFaultRecorded s → ForegroundReady s →
    exec .sStop s = .next { s with
      slv := { s.slv with
        sEn := false, sPhase := .awaitingIndex, index := 0#8, evtPending := false, ackNext := .nack }
      phy := { s.phy with listening := false }
      trace := .disableSlave :: s.trace }

/-- R218: whenever the foreground can step, `CLI` writes 0 and `SEI` writes 1 to `EVT_IE`, and neither writes anything else.
(Premise of R236: `NoStrictFaultRecorded`.) -/
def Obligations.CliAndSeiWriteEvtIe : Prop :=
  ∀ s : State, NoStrictFaultRecorded s → ForegroundReady s →
    exec .cli s = .next { s with slv := { s.slv with evtIe := false } } ∧
    exec .sei s = .next { s with slv := { s.slv with evtIe := true } }

/-- R238: the refusals of the commands, each under the conditions that come before it in the model's order
(assumption 11). -/
def Obligations.CommandsAreRefusedByName : Prop :=
  ∀ s : State, ForegroundReady s →
    (∀ i ∈ [.mStart .write, .mStart .read, .mStop, .mWrite .none, .mWrite .start, .mWrite .stop, .mWrite .startAndStop,
        .mRead .none, .mRead .start, .mRead .stop, .mRead .startAndStop, .mTransfer],
      (s.clk.done = false → exec i s = .refused .notConfigured) ∧
      (s.clk.done = true → s.slv.sEn = true → exec i s = .refused .masterWhileSlaveEnabled)) ∧
    (s.clk.done = false → exec .sStart s = .refused .notConfigured) ∧
    (s.slv.sEn = false → s.opnd.rateWritten = false ∨ s.opnd.pullupsWritten = false →
      exec .configure s = .refused .unwrittenOperand) ∧
    (s.clk.done = true → s.opnd.addrWritten = false ∨ s.opnd.capWritten = false →
      exec .sStart s = .refused .unwrittenOperand) ∧
    (s.clk.done = true → s.slv.sEn = false →
      (∀ d, s.opnd.addrWritten = false → exec (.mStart d) s = .refused .unwrittenOperand) ∧
      (∀ f, s.opnd.lenWritten = false ∨ (f.opens = true ∧ s.opnd.addrWritten = false) →
        exec (.mWrite f) s = .refused .unwrittenOperand ∧ exec (.mRead f) s = .refused .unwrittenOperand) ∧
      (s.opnd.addrWritten = false ∨ s.opnd.lenWritten = false ∨ s.opnd.ilenWritten = false →
        exec .mTransfer s = .refused .unwrittenOperand) ∧
      (∀ f, s.opnd.lenWritten = true → (f.opens = true → s.opnd.addrWritten = true) → s.opnd.aLen = 0#8 →
        exec (.mRead f) s = .refused .readLengthZero))

/-! ### The master's commands -/

/-- R150, R167: `M_START` latches its operands, requests a start and waits.
(Premise of R236: `NoStrictFaultRecorded`.) -/
def Obligations.MasterStartRequestsOneStart : Prop :=
  ∀ (s : State) (d : Direction), NoStrictFaultRecorded s → MasterReady s → s.opnd.addrWritten = true →
    exec (.mStart d) s = .next { s with
      mst := { s.mst with mBusy := true, mOp := 1#3, mAddr := s.opnd.aAddr, mDir := d, mState := .startWait }
      phy := { s.phy with step := some .start, polls := 0 }
      trace := .issueStart :: s.trace }

/-- R155: `M_STOP` is one stop request; no result, no wait.
(Premise of R236: `NoStrictFaultRecorded`.) -/
def Obligations.MasterStopIsOneStopRequest : Prop :=
  ∀ s : State, NoStrictFaultRecorded s → MasterReady s →
    exec .mStop s = .next { s with trace := .issueStop :: s.trace }

/-- R157, R158, R168: `M_WRITE` in all four framings: with an opening framing it requests a start; else it sends `OUTBUF[0]`,
or with length 0 returns success at once, after a stop if the framing closes.
(A first cell nothing has written is the model's fault, assumption 10; that `M_ADDR` and `M_DIR` keep their values when the
framing does not open is the model's reading, assumption 12.)
(Premise of R236: `NoStrictFaultRecorded`.) -/
def Obligations.MasterWriteBegins : Prop :=
  ∀ (s : State) (f : Framing), NoStrictFaultRecorded s → MasterReady s → s.opnd.lenWritten = true →
    (f = .start ∨ f = .startAndStop → s.opnd.addrWritten = true →
      exec (.mWrite f) s = .next { s with
        mst := { s.mst with
          mBusy := true, mOp := 3#3, mAddr := s.opnd.aAddr, mDir := .write, mFraming := f, mLen := s.opnd.aLen
          mCnt := 0#8, mState := .startWait }
        phy := { s.phy with step := some .start, polls := 0 }
        trace := .issueStart :: s.trace }) ∧
    (f = .none ∨ f = .stop →
      (s.opnd.aLen = 0#8 →
        exec (.mWrite f) s = .next { s with
          mst := { s.mst with
            mBusy := false, mOp := 3#3, mFraming := f, mLen := 0#8, mCnt := 0#8, mState := .idle, result := .ok
            resultValid := true }
          trace := if f = .stop then .issueStop :: s.trace else s.trace }) ∧
      (∀ b, s.opnd.aLen ≠ 0#8 → s.outbuf.read 0 = some b →
        exec (.mWrite f) s = .next { s with
          mst := { s.mst with
            mBusy := true, mOp := 3#3, mFraming := f, mLen := s.opnd.aLen, mCnt := 0#8, mState := .txWait }
          phy := { s.phy with step := some (.transmit b), polls := 0 }
          trace := .transmitByte b :: s.trace }) ∧
      (s.opnd.aLen ≠ 0#8 → s.outbuf.read 0 = none → exec (.mWrite f) s = .fault (.unwrittenCell .outbuf 0#8)))

/-- R160, R161, R167: `M_READ` of at least one byte, in all four framings: with an opening framing it requests a start; else it
asks for byte 0, with no-acknowledge when it is the only one.
(That `M_ADDR` and `M_DIR` keep their values when the framing does not open is the model's reading, assumption 12.)
(Premise of R236: `NoStrictFaultRecorded`.) -/
def Obligations.MasterReadBegins : Prop :=
  ∀ (s : State) (f : Framing), NoStrictFaultRecorded s → MasterReady s → s.opnd.lenWritten = true →
    s.opnd.aLen ≠ 0#8 →
    (f = .start ∨ f = .startAndStop → s.opnd.addrWritten = true →
      exec (.mRead f) s = .next { s with
        mst := { s.mst with
          mBusy := true, mOp := 4#3, mAddr := s.opnd.aAddr, mDir := .read, mFraming := f, mLen := s.opnd.aLen
          mCnt := 0#8, mState := .startWait }
        phy := { s.phy with step := some .start, polls := 0 }
        trace := .issueStart :: s.trace }) ∧
    (f = .none ∨ f = .stop →
      exec (.mRead f) s = .next { s with
        mst := { s.mst with
          mBusy := true, mOp := 4#3, mFraming := f, mLen := s.opnd.aLen, mCnt := 0#8, mState := .rxWait }
        phy := { s.phy with step := some (.receive (if s.opnd.aLen = 1#8 then .nack else .ack)), polls := 0 }
        trace := .receiveByte (if s.opnd.aLen = 1#8 then .nack else .ack) :: s.trace })

/-- R163, R165, R167: `M_TRANSFER` begins with the write phase if its outgoing length is greater than 0, else with the read
phase if its incoming length is, and with both 0 returns success having issued nothing.
(Premise of R236: `NoStrictFaultRecorded`.) -/
def Obligations.MasterTransferBegins : Prop :=
  ∀ s : State, NoStrictFaultRecorded s → MasterReady s → s.opnd.addrWritten = true → s.opnd.lenWritten = true →
    s.opnd.ilenWritten = true →
    (s.opnd.aLen ≠ 0#8 →
      exec .mTransfer s = .next { s with
        mst := { s.mst with
          mBusy := true, mOp := 5#3, mAddr := s.opnd.aAddr, mDir := .write, mLen := s.opnd.aLen, mIlen := s.opnd.aIlen
          mRan := true, mXph := false, mCnt := 0#8, mState := .startWait }
        phy := { s.phy with step := some .start, polls := 0 }
        trace := .issueStart :: s.trace }) ∧
    (s.opnd.aLen = 0#8 → s.opnd.aIlen ≠ 0#8 →
      exec .mTransfer s = .next { s with
        mst := { s.mst with
          mBusy := true, mOp := 5#3, mAddr := s.opnd.aAddr, mDir := .read, mLen := 0#8, mIlen := s.opnd.aIlen
          mRan := true, mXph := true, mCnt := 0#8, mState := .startWait }
        phy := { s.phy with step := some .start, polls := 0 }
        trace := .issueStart :: s.trace }) ∧
    (s.opnd.aLen = 0#8 → s.opnd.aIlen = 0#8 →
      exec .mTransfer s = .next { s with
        mst := { s.mst with
          mBusy := false, mOp := 5#3, mAddr := s.opnd.aAddr, mLen := 0#8, mIlen := 0#8, mRan := false, mXph := false
          mState := .idle, result := .ok, resultValid := true } })

/-! ### The answers of PHY to a waiting primitive -/

/-- R150, R169, R231: while the start is awaited, each of the twenty answers completes it: start-sent and
repeated-start-sent lead to the address byte, every other status fails with no stop.
(Premise of R236: `NoStrictFaultRecorded`.) -/
def Obligations.StartAnswerSendsAddressOrFails : Prop :=
  ∀ (i : Instr) (code rx : Byte) (s : State), NoStrictFaultRecorded s →
    statusRow i = some (code, rx) → s.mst.mState = .startWait →
    s.phy.step = some .start →
    (code = 0x08#8 ∨ code = 0x10#8 →
      exec i s = .next { s with
        mst := { s.mst with mState := .addrWait }
        phy := { s.phy with
          step := some (.transmit (s.mst.mAddr ++ BitVec.ofBool s.mst.mDir.bit)), status := code, statusKnown := true
          polls := 0 }
        trace := .transmitByte (s.mst.mAddr ++ BitVec.ofBool s.mst.mDir.bit) :: .currentStatus code :: s.trace }) ∧
    (code ≠ 0x08#8 → code ≠ 0x10#8 →
      exec i s = .next { s with
        mst := { s.mst with result := .fail, resultValid := true, mBusy := false, mState := .idle }
        phy := { s.phy with step := none, status := code, statusKnown := true, polls := 0 }
        trace := .raised .startFailed :: .currentStatus code :: s.trace })

/-- R98, R150, R169, R232: while the address byte is awaited, every status but the acknowledge of its own direction requests a
stop and fails; that one ends `M_START` with success and no stop.
(Premise of R236: `NoStrictFaultRecorded`.) -/
def Obligations.AddressAnswerReleasesTheBusOrSucceeds : Prop :=
  ∀ (i : Instr) (code rx b : Byte) (s : State), NoStrictFaultRecorded s →
    statusRow i = some (code, rx) → s.mst.mState = .addrWait →
    s.phy.step = some (.transmit b) →
    (code ≠ (match s.mst.mDir with | .write => 0x18#8 | .read => 0x40#8) →
      exec i s = .next { s with
        mst := { s.mst with result := .fail, resultValid := true, mBusy := false, mState := .idle }
        phy := { s.phy with step := none, status := code, statusKnown := true, polls := 0 }
        trace := .raised .addressRejected :: .issueStop :: s.trace }) ∧
    (code = (match s.mst.mDir with | .write => 0x18#8 | .read => 0x40#8) → s.mst.mOp = 1#3 →
      exec i s = .next { s with
        mst := { s.mst with result := .ok, resultValid := true, mBusy := false, mState := .idle }
        phy := { s.phy with step := none, status := code, statusKnown := true, polls := 0 } })

/-- R157, R160, R167: an acknowledged address of a write command sends `OUTBUF[0]` or, with length 0, ends the write body; of
a read command it asks for byte 0, with no-acknowledge when it is the only one.
(A first cell nothing has written is the model's fault, assumption 10.)
(Premise of R236: `NoStrictFaultRecorded`.) -/
def Obligations.AcknowledgedAddressBeginsTheBody : Prop :=
  ∀ (i : Instr) (code rx b : Byte) (s : State), NoStrictFaultRecorded s →
    statusRow i = some (code, rx) → s.mst.mState = .addrWait →
    s.phy.step = some (.transmit b) → s.mst.mOp ≠ 1#3 →
    let p : Phy := { s.phy with step := none, status := code, statusKnown := true, polls := 0 }
    (code = 0x18#8 → s.mst.mDir = .write →
      (∀ o, s.mst.mLen ≠ 0#8 → s.outbuf.read 0 = some o →
        exec i s = .next { s with
          mst := { s.mst with mCnt := 0#8, mState := .txWait }
          phy := { p with step := some (.transmit o) }
          trace := .transmitByte o :: s.trace }) ∧
      (s.mst.mLen ≠ 0#8 → s.outbuf.read 0 = none → exec i s = .fault (.unwrittenCell .outbuf 0#8)) ∧
      (s.mst.mLen = 0#8 → exec i s = .next (writeDone { s with phy := p }))) ∧
    (code = 0x40#8 → s.mst.mDir = .read →
      let len := if s.mst.mOp = 5#3 then s.mst.mIlen else s.mst.mLen
      let policy : AckPolicy := if len = 1#8 then .nack else .ack
      exec i s = .next { s with
        mst := { s.mst with mCnt := 0#8, mState := .rxWait }
        phy := { p with step := some (.receive policy) }
        trace := .receiveByte policy :: s.trace })

/-- R157, R169, R233: while a data byte is awaited, data-sent-acked sends the next byte of `OUTBUF` or ends the write body;
every other status fails at once with no stop.
(A next cell nothing has written is the model's fault, assumption 10.)
(Premise of R236: `NoStrictFaultRecorded`.) -/
def Obligations.DataAnswerContinuesOrFails : Prop :=
  ∀ (i : Instr) (code rx b : Byte) (s : State), NoStrictFaultRecorded s →
    statusRow i = some (code, rx) → s.mst.mState = .txWait →
    s.phy.step = some (.transmit b) →
    let p : Phy := { s.phy with step := none, status := code, statusKnown := true, polls := 0 }
    let k := s.mst.mCnt.toNat + 1
    (code ≠ 0x28#8 →
      exec i s = .next { s with
        mst := { s.mst with result := .fail, resultValid := true, mBusy := false, mState := .idle }
        phy := p
        trace := .raised .dataRejected :: s.trace }) ∧
    (code = 0x28#8 →
      (∀ o, k < s.mst.mLen.toNat → s.outbuf.read k = some o →
        exec i s = .next { s with
          mst := { s.mst with mCnt := s.mst.mCnt + 1#8, mState := .txWait }
          phy := { p with step := some (.transmit o) }
          trace := .transmitByte o :: s.trace }) ∧
      (k < s.mst.mLen.toNat → s.outbuf.read k = none →
        exec i s = .fault (.unwrittenCell .outbuf (s.mst.mCnt + 1#8))) ∧
      (s.mst.mLen.toNat ≤ k → exec i s = .next (writeDone { s with phy := p })))

/-- R160, R161, R167: while a received byte is awaited, each of the twenty answers stores the byte at `INBUF[M_CNT]`, whatever
its status, and no other cell; then it asks for the next byte, with no-acknowledge for the last, or ends the read body.
(Premise of R236: `NoStrictFaultRecorded`.) -/
def Obligations.ReceivedByteIsStoredWhateverItsStatus : Prop :=
  ∀ (i : Instr) (code rx : Byte) (p : AckPolicy) (s : State), NoStrictFaultRecorded s →
    statusRow i = some (code, rx) → s.mst.mState = .rxWait →
    s.phy.step = some (.receive p) →
    ∃ m : Memory, m.read s.mst.mCnt.toNat = some rx ∧ (∀ a, a ≠ s.mst.mCnt.toNat → m.read a = s.inbuf.read a) ∧
      let q : Phy := { s.phy with step := none, status := code, statusKnown := true, rxByte := rx, polls := 0 }
      let len := (if s.mst.mOp = 5#3 then s.mst.mIlen else s.mst.mLen).toNat
      let policy : AckPolicy := if s.mst.mCnt.toNat + 1 = len - 1 then .nack else .ack
      (s.mst.mCnt.toNat + 1 < len →
        exec i s = .next { s with
          mst := { s.mst with mCnt := s.mst.mCnt + 1#8, mState := .rxWait }
          inbuf := m
          phy := { q with step := some (.receive policy) }
          trace := .receiveByte policy :: s.trace }) ∧
      (len ≤ s.mst.mCnt.toNat + 1 → exec i s = .next (readDone { s with inbuf := m, phy := q }))

/-- R157, R160, R163, R167: the end of a write or read body: a stop if the framing closes and success; in `M_TRANSFER` the
read phase's start after a write phase with a read to come, else one stop if a phase ran and success.
(That `M_CNT` keeps the last offset where no rule writes it is the model's reading, assumption 12.)
(Premise of R236: `NoStrictFaultRecorded`.) -/
def Obligations.EndOfBodyClosesOrGoesOn : Prop :=
  ∀ s : State, NoStrictFaultRecorded s →
    (s.mst.mOp ≠ 5#3 →
      writeDone s = readDone s ∧
      readDone s = { s with
        mst := { s.mst with result := .ok, resultValid := true, mBusy := false, mState := .idle }
        trace := match s.mst.mFraming with
          | .none => s.trace
          | .start => s.trace
          | .stop => .issueStop :: s.trace
          | .startAndStop => .issueStop :: s.trace }) ∧
    (s.mst.mOp = 5#3 →
      (s.mst.mIlen ≠ 0#8 →
        writeDone s = { s with
          mst := { s.mst with mRan := true, mXph := true, mCnt := 0#8, mDir := .read, mState := .startWait }
          phy := { s.phy with step := some .start, polls := 0 }
          trace := .issueStart :: s.trace }) ∧
      (s.mst.mIlen = 0#8 → writeDone s = readDone s) ∧
      readDone s = { s with
        mst := { s.mst with result := .ok, resultValid := true, mBusy := false, mState := .idle }
        trace := if s.mst.mRan = true then .issueStop :: s.trace else s.trace })

/-- R47, R126, R127: an answer to a primitive issued by itself completes it and makes its status current; an answer with no
bus step outstanding is no step of the machine.
(Primitives issued by themselves are the model's, assumption 13.)
(Premise of R236: `NoStrictFaultRecorded`.) -/
def Obligations.AnswerCompletesTheOutstandingStep : Prop :=
  ∀ (i : Instr) (code rx : Byte) (s : State), NoStrictFaultRecorded s → statusRow i = some (code, rx) →
    (∀ b, s.mst.mState = .idle → s.phy.step = some b →
      exec i s = .next { s with
        phy := { s.phy with
          step := none, status := code, statusKnown := true, polls := 0
          rxByte := match b with | .receive _ => rx | .start => s.phy.rxByte | .transmit _ => s.phy.rxByte } }) ∧
    (s.phy.step = none → exec i s = .refused .noBusStep)

/-! ### The slave event handler -/

/-- R183: address-matched-as-receiver sets the cursor to 0 and the phase to AwaitingIndex, re-arms with Ack and without the
stop signal, and writes nothing else.
(Premise of R236: `NoStrictFaultRecorded`.) -/
def Obligations.AddressMatchResetsTheCursor : Prop :=
  ∀ s : State, NoStrictFaultRecorded s → Delivers s 0x60#8 →
    exec .evtStSrSlaAck s = .next { s with
      slv := { s.slv with index := 0#8, sPhase := .awaitingIndex, ackNext := .ack, evtPending := false }
      trace := .rearm .ack false :: s.trace }

/-- R184: data-received-acked in AwaitingIndex takes the byte as the cursor, unchecked.
(Premise of R236: `NoStrictFaultRecorded`.) -/
def Obligations.FirstByteBecomesTheCursor : Prop :=
  ∀ s : State, NoStrictFaultRecorded s → Delivers s 0x80#8 → s.slv.sPhase = .awaitingIndex →
    exec .evtStSrDataAckAwaitingIndex s = .next { s with
      slv := { s.slv with index := s.slv.evtRx, sPhase := .receivingData, ackNext := .ack, evtPending := false }
      trace := .rearm .ack false :: s.trace }

/-- R64, R187, R236: data-received-acked in ReceivingData with the cursor below `CAP` stores there and nowhere else, the
cursor advances modulo 256, and Ack goes on only while the new cursor is below `CAP - 1`.
At or beyond `CAP` the row completes with the store suppressed and `OOB_ST` recorded; nothing else is claimed of that run,
which does not meet `NoStrictFaultRecorded`.
(Premise of R236: `NoStrictFaultRecorded`.) -/
def Obligations.DataByteIsStoredAtTheCursor : Prop :=
  ∀ s : State, NoStrictFaultRecorded s → Delivers s 0x80#8 → s.slv.sPhase = .receivingData →
    let next : Slave := { s.slv with
      index := s.slv.index + 1#8, sPhase := .receivingData, evtPending := false
      ackNext := if (s.slv.index + 1#8).toNat < s.slv.cap.toNat - 1 then .ack else .nack }
    (s.slv.index.toNat < s.slv.cap.toNat →
      ∃ m : Memory, m.read s.slv.index.toNat = some s.slv.evtRx ∧
        (∀ a, a ≠ s.slv.index.toNat → m.read a = s.array.read a) ∧
        exec .evtStSrDataAckReceivingData s = .next { s with
          slv := next, array := m, trace := .rearm next.ackNext false :: s.trace }) ∧
    (s.slv.cap.toNat ≤ s.slv.index.toNat →
      ∃ t, exec .evtStSrDataAckReceivingData s = .next t ∧
        t.array = s.array ∧ t.slv.sfault = s.slv.sfault ||| 0b001#3 ∧ ¬ NoStrictFaultRecorded t)

/-- R64, R188, R236: data-received-nacked in ReceivingData with the cursor below `CAP` still stores there and nowhere else,
resets the cursor, and acknowledges again.
At or beyond `CAP` the row completes with the store suppressed and `OOB_ST` recorded; nothing else is claimed of that run,
which does not meet `NoStrictFaultRecorded`.
(Premise of R236: `NoStrictFaultRecorded`.) -/
def Obligations.UnacknowledgedByteIsStoredClamped : Prop :=
  ∀ s : State, NoStrictFaultRecorded s → Delivers s 0x88#8 → s.slv.sPhase = .receivingData →
    let next : Slave := { s.slv with
      index := 0#8, sPhase := .awaitingIndex, evtPending := false, ackNext := .ack }
    (s.slv.index.toNat < s.slv.cap.toNat →
      ∃ m : Memory, m.read s.slv.index.toNat = some s.slv.evtRx ∧
        (∀ a, a ≠ s.slv.index.toNat → m.read a = s.array.read a) ∧
        exec .evtStSrDataNackReceivingData s = .next { s with
          slv := next, array := m, trace := .rearm .ack false :: s.trace }) ∧
    (s.slv.cap.toNat ≤ s.slv.index.toNat →
      ∃ t, exec .evtStSrDataNackReceivingData s = .next t ∧
        t.array = s.array ∧ t.slv.sfault = s.slv.sfault ||| 0b001#3 ∧ ¬ NoStrictFaultRecorded t)

/-- R189: data-received-nacked in AwaitingIndex stores nothing, takes no cursor, and is recorded as `PROTO`.
(Premise of R236: `NoStrictFaultRecorded`.) -/
def Obligations.NackedByteWithoutCursorIsRecorded : Prop :=
  ∀ s : State, NoStrictFaultRecorded s → Delivers s 0x88#8 → s.slv.sPhase = .awaitingIndex →
    exec .evtStSrDataNackAwaitingIndex s = .next { s with
      slv := { s.slv with
        index := 0#8, sPhase := .awaitingIndex, sfault := s.slv.sfault ||| 0b100#3, ackNext := .ack, evtPending := false }
      trace := .rearm .ack false :: s.trace }

/-- R65, R190, R236: addressed-as-transmitter and data-transmitted-acked with the cursor below `CAP` load the byte there for
transmission, advance the cursor modulo 256, and keep acknowledging only while the new cursor is below `CAP`; the phase is
unchanged.
At or beyond `CAP` the row completes with `OOB_LD` recorded; nothing else is claimed of that run, which does not meet
`NoStrictFaultRecorded`.
(In range in a cell nothing has written, R266 leaves a choice: the model draws some byte, assumption 1.)
(Premise of R236: `NoStrictFaultRecorded`.) -/
def Obligations.TransmitRowSuppliesTheByteAtTheCursor : Prop :=
  ∀ (i : Instr) (code : Byte) (s : State), (i, code) ∈ [(.evtStStSlaAck, 0xA8#8), (.evtStStDataAck, 0xB8#8)] →
    NoStrictFaultRecorded s → Delivers s code →
    let next : Slave := { s.slv with
      index := s.slv.index + 1#8, evtPending := false
      ackNext := if (s.slv.index + 1#8).toNat < s.slv.cap.toNat then .ack else .nack }
    (∀ b, s.slv.index.toNat < s.slv.cap.toNat → s.array.read s.slv.index.toNat = some b →
      exec i s = .next { s with
        slv := { next with txData := b }, trace := .rearm next.ackNext false :: s.trace }) ∧
    (s.slv.index.toNat < s.slv.cap.toNat → s.array.read s.slv.index.toNat = none →
      ∃ b, exec i s = .next { s with
        slv := { next with txData := b }, draws := s.draws + 1, trace := .rearm next.ackNext false :: s.trace }) ∧
    (s.slv.cap.toNat ≤ s.slv.index.toNat →
      ∃ t, exec i s = .next t ∧ t.slv.sfault = s.slv.sfault ||| 0b010#3 ∧ ¬ NoStrictFaultRecorded t)

/-- R191: data-transmitted-nacked and last-data-transmitted end the read: cursor 0, phase AwaitingIndex, nothing else.
(Premise of R236: `NoStrictFaultRecorded`.) -/
def Obligations.EndOfReadResetsTheCursor : Prop :=
  ∀ (i : Instr) (code : Byte) (s : State), (i, code) ∈ [(.evtStStDataNack, 0xC0#8), (.evtStStLastData, 0xC8#8)] →
    NoStrictFaultRecorded s → Delivers s code →
    exec i s = .next { s with
      slv := { s.slv with index := 0#8, sPhase := .awaitingIndex, ackNext := .ack, evtPending := false }
      trace := .rearm .ack false :: s.trace }

/-- R192: stop-condition-seen resets the phase and leaves the cursor.
(Premise of R236: `NoStrictFaultRecorded`.) -/
def Obligations.StopConditionLeavesTheCursor : Prop :=
  ∀ s : State, NoStrictFaultRecorded s → Delivers s 0xA0#8 →
    exec .evtStSrStop s = .next { s with
      slv := { s.slv with sPhase := .awaitingIndex, ackNext := .ack, evtPending := false }
      trace := .rearm .ack false :: s.trace }

/-- R193: bus-error, the ten master-role statuses and every status of class UNKNOWN take the recovery row, whose re-arm
carries the stop signal.
(Premise of R236: `NoStrictFaultRecorded`.) -/
def Obligations.UnrecognisedStatusRecovers : Prop :=
  ∀ (i : Instr) (code : Byte) (s : State), NoStrictFaultRecorded s → recoveryRow i = some code → i.wf = true →
    Delivers s code →
    exec i s = .next { s with
      slv := { s.slv with
        index := 0#8, sPhase := .awaitingIndex, sfault := s.slv.sfault ||| 0b100#3, ackNext := .ack, evtPending := false }
      trace := .rearm .ack true :: s.trace }

/-- R180, R181, R182: a row of the handler runs when, and only when, the role is enabled, delivery is enabled, an event is
pending and its status and the phase select the row; a run ends with exactly one re-arm and issues no other primitive.
(Premise of R236: `NoStrictFaultRecorded`.) -/
def Obligations.HandlerRunsExactlyWhenDelivered : Prop :=
  ∀ (i : Instr) (s : State), NoStrictFaultRecorded s → isRow i = true →
    ((∃ t, exec i s = .next t) ↔
      (s.slv.sEn = true ∧ s.slv.evtIe = true ∧ s.slv.evtPending = true ∧ decodeEvt s.slv.evtStatus s.slv.sPhase = i)) ∧
    ∀ t, exec i s = .next t → NoStrictFaultRecorded t →
      t.phy = s.phy ∧ t.slv.evtPending = false ∧ t.slv.sEn = true ∧
        ∃ stop, t.trace = .rearm t.slv.ackNext stop :: s.trace

/-- R181, R198: the rows together are the handler written as one function.
(Premise of R236: `NoStrictFaultRecorded`.) -/
def Obligations.RowsAreTheWholeHandler : Prop :=
  ∀ s : State, s.slv.sEn = true → s.slv.evtIe = true → s.slv.evtPending = true →
    isRow (decodeEvt s.slv.evtStatus s.slv.sPhase) = true ∧
    (NoStrictFaultRecorded (handler s) → exec (decodeEvt s.slv.evtStatus s.slv.sPhase) s = .next (handler s))

/-- R199: what never changes in a handler run, that it writes at most the cell at the cursor, and that it only sets `SFAULT`
bits.
(Premise of R236: `NoStrictFaultRecorded`.) -/
def Obligations.HandlerRunFrame : Prop :=
  ∀ (i : Instr) (s t : State), isRow i = true → exec i s = .next t → NoStrictFaultRecorded t →
    t.slv.cap = s.slv.cap ∧ t.slv.sEn = s.slv.sEn ∧ t.slv.sAddr = s.slv.sAddr ∧ t.slv.evtIe = s.slv.evtIe ∧
    t.mst = s.mst ∧ t.opnd = s.opnd ∧ t.clk = s.clk ∧ t.outbuf = s.outbuf ∧ t.inbuf = s.inbuf ∧
    (∀ a, a ≠ s.slv.index.toNat → t.array.read a = s.array.read a) ∧
    (∀ k, s.slv.sfault.getLsbD k = true → t.slv.sfault.getLsbD k = true)

/-- R132: the received byte means something for the two data-received statuses only: in every other row another byte in
`EVT_RX` changes nothing but `EVT_RX`.
(Premise of R236: `NoStrictFaultRecorded`.) -/
def Obligations.ReceivedByteMattersToDataRowsOnly : Prop :=
  ∀ (i : Instr) (s t : State) (b : Byte), isRow i = true → s.slv.evtStatus ≠ 0x80#8 → s.slv.evtStatus ≠ 0x88#8 →
    exec i s = .next t → NoStrictFaultRecorded t →
    exec i { s with slv := { s.slv with evtRx := b } } = .next { t with slv := { t.slv with evtRx := b } }

/-! ### The physical layer's primitives and the event it raises -/

/-- R71, R120 to R125: each master-side primitive, issued by itself when no command runs and none is outstanding, is one request
with its operands; start, transmit and receive then wait for completion; while one is outstanding the five are refused, and
while a command runs all six are; the current status is that of the most recent completed bus step, reading it changes
nothing, and before any has completed it faults.
(That a primitive can be issued by itself, whatever `CFG_DONE` and `S_EN`, is the model's choice, assumption 13.)
(Premise of R236: `NoStrictFaultRecorded`.) -/
def Obligations.MasterSidePrimitivesRequestOneStep : Prop :=
  (∀ s : State, NoStrictFaultRecorded s → s.mst.mState = .idle → s.phy.step = none →
    exec .hpiConfigureClock s = .next { s with trace := .configureClock s.clk.rate s.clk.pullups :: s.trace } ∧
    exec .hpiIssueStart s = .next { s with
      phy := { s.phy with step := some .start, polls := 0 }, trace := .issueStart :: s.trace } ∧
    exec .hpiIssueStop s = .next { s with trace := .issueStop :: s.trace } ∧
    (∀ b, exec (.hpiTransmitByte b) s = .next { s with
      phy := { s.phy with step := some (.transmit b), polls := 0 }, trace := .transmitByte b :: s.trace }) ∧
    (∀ p, exec (.hpiReceiveByte p) s = .next { s with
      phy := { s.phy with step := some (.receive p), polls := 0 }, trace := .receiveByte p :: s.trace })) ∧
  (∀ (i : Instr) (s : State), i = .hpiConfigureClock ∨ i = .hpiIssueStart ∨ i = .hpiIssueStop ∨
      (∃ b, i = .hpiTransmitByte b) ∨ (∃ p, i = .hpiReceiveByte p) →
    (s.mst.mState = .idle → s.phy.step ≠ none → exec i s = .refused .busStepOutstanding) ∧
    (s.mst.mState ≠ .idle → exec i s = .refused .commandRunning)) ∧
  ∀ s : State, NoStrictFaultRecorded s →
    (s.mst.mState = .idle → s.phy.statusKnown = true →
      exec .hpiCurrentStatus s = .next { s with trace := .currentStatus s.phy.status :: s.trace }) ∧
    (s.mst.mState = .idle → s.phy.statusKnown = false → exec .hpiCurrentStatus s = .fault .noCurrentStatus) ∧
    (s.mst.mState ≠ .idle → exec .hpiCurrentStatus s = .refused .commandRunning)

/-- R71, R130, R131, R134: issued by themselves while no command runs, enabling and disabling make `PHY` listen for the own
address or not, a re-arm sets `ACK_NEXT` and clears `EVT_PENDING`; each is one trace entry and none writes anything else;
while a command runs each is refused.
(That they can be issued by themselves, and that a disable then leaves `S_EN` and a latched event, is the model's choice,
assumption 13.)
(Premise of R236: `NoStrictFaultRecorded`.) -/
def Obligations.SlaveSidePrimitives : Prop :=
  ∀ s : State, NoStrictFaultRecorded s →
    (s.mst.mState = .idle →
      (∀ a, exec (.hpiEnableSlave a) s = .next { s with
        phy := { s.phy with listening := true }, trace := .enableSlave a :: s.trace }) ∧
      exec .hpiDisableSlave s = .next { s with
        phy := { s.phy with listening := false }, trace := .disableSlave :: s.trace } ∧
      (∀ p stop, exec (.hpiRearm p stop) s = .next { s with
        slv := { s.slv with ackNext := p, evtPending := false }, trace := .rearm p stop :: s.trace })) ∧
    (s.mst.mState ≠ .idle →
      (∀ a, exec (.hpiEnableSlave a) s = .refused .commandRunning) ∧
      exec .hpiDisableSlave s = .refused .commandRunning ∧
      (∀ p stop, exec (.hpiRearm p stop) s = .refused .commandRunning))

/-- R131, R132, R136: `PHY` raises any status with any byte while the role is enabled, it listens for the own address and
no event is pending, which writes the latch and nothing else, and never otherwise.
(That a raise at any other time is refused is the model's choice, assumption 8.)
(Premise of R236: `NoStrictFaultRecorded`.) -/
def Obligations.EventIsLatchedOneDeep : Prop :=
  ∀ (s : State) (status rx : Byte), NoStrictFaultRecorded s →
    (s.slv.sEn = true → s.phy.listening = true → s.slv.evtPending = false →
      exec (.phyRaiseEvent status rx) s = .next { s with
        slv := { s.slv with evtStatus := status, evtRx := rx, evtPending := true } }) ∧
    (s.slv.sEn = false ∨ s.phy.listening = false ∨ s.slv.evtPending = true →
      exec (.phyRaiseEvent status rx) s = .refused .eventNotAllowed)

/-! ### The host port -/

/-- R24, R52, R219, R220: what each host read returns, with no side effect; a read of a location nothing has written faults.
(That the value goes to `hostData` is the model's choice, assumption 5; that the cells of `ARRAY` from `CAP` on can be read is
the model's reading, assumption 19.)
(Premise of R236: `NoStrictFaultRecorded`.) -/
def Obligations.HostReadReturnsTheRegister : Prop :=
  ∀ s : State, NoStrictFaultRecorded s → ForegroundReady s →
    (s.mst.resultValid = true →
      exec (.hostRd .result) s = .next { s with hostData := if s.mst.result = .fail then 1#32 else 0#32 }) ∧
    exec (.hostRd .resultValid) s = .next { s with hostData := if s.mst.resultValid then 1#32 else 0#32 } ∧
    exec (.hostRd .mBusy) s = .next { s with hostData := if s.mst.mBusy then 1#32 else 0#32 } ∧
    exec (.hostRd .sfault) s = .next { s with hostData := s.slv.sfault.setWidth 32 } ∧
    exec (.hostRd .index) s = .next { s with hostData := s.slv.index.setWidth 32 } ∧
    exec (.hostRd .sEn) s = .next { s with hostData := if s.slv.sEn then 1#32 else 0#32 } ∧
    exec (.hostRd .sPhase) s = .next { s with hostData := if s.slv.sPhase = .receivingData then 1#32 else 0#32 } ∧
    (s.slv.capWritten = true → exec (.hostRd .cap) s = .next { s with hostData := s.slv.cap.setWidth 32 }) ∧
    exec (.hostRd .cfgDone) s = .next { s with hostData := if s.clk.done then 1#32 else 0#32 } ∧
    (∀ (k b : Byte), s.array.read k.toNat = some b →
      exec (.hostRd (.array k)) s = .next { s with hostData := b.setWidth 32 }) ∧
    (∀ (k b : Byte), s.inbuf.read k.toNat = some b →
      exec (.hostRd (.inbuf k)) s = .next { s with hostData := b.setWidth 32 }) ∧
    (s.mst.resultValid = false → exec (.hostRd .result) s = .fault (.unwrittenRegister .result)) ∧
    (s.slv.capWritten = false → exec (.hostRd .cap) s = .fault (.unwrittenRegister .cap)) ∧
    (∀ k : Byte, s.array.read k.toNat = none → exec (.hostRd (.array k)) s = .fault (.unwrittenCell .array k)) ∧
    (∀ k : Byte, s.inbuf.read k.toNat = none → exec (.hostRd (.inbuf k)) s = .fault (.unwrittenCell .inbuf k))

/-- R20, R52, R63, R219: a host write of an operand register, of `INDEX` or of `EVT_IE` writes that register only, one of a
byte cell replaces that cell and no other; a write of `CMD` is the command its byte decodes to.
(That the cells of `ARRAY` from `CAP` on can be written, and that `CMD` and `EVT_IE` are host-port locations, is the model's
reading, assumption 19.)
(Premise of R236: `NoStrictFaultRecorded`.) -/
def Obligations.HostWriteWritesOneLocation : Prop :=
  ∀ (s : State) (v : HostWord), NoStrictFaultRecorded s → ForegroundReady s →
    exec (.hostWr .aAddr v) s = .next { s with opnd := { s.opnd with aAddr := v.setWidth 7, addrWritten := true } } ∧
    exec (.hostWr .aLen v) s = .next { s with opnd := { s.opnd with aLen := v.setWidth 8, lenWritten := true } } ∧
    exec (.hostWr .aIlen v) s = .next { s with opnd := { s.opnd with aIlen := v.setWidth 8, ilenWritten := true } } ∧
    exec (.hostWr .aRate v) s = .next { s with opnd := { s.opnd with aRate := v, rateWritten := true } } ∧
    exec (.hostWr .aPullups v) s = .next { s with
      opnd := { s.opnd with aPullups := v.getLsbD 0, pullupsWritten := true } } ∧
    exec (.hostWr .aCap v) s = .next { s with opnd := { s.opnd with aCap := v.setWidth 8, capWritten := true } } ∧
    exec (.hostWr .index v) s = .next { s with slv := { s.slv with index := v.setWidth 8 } } ∧
    exec (.hostWr .evtIe v) s = .next { s with slv := { s.slv with evtIe := v.getLsbD 0 } } ∧
    exec (.hostWr .cmd v) s = exec (decodeCmd (v.setWidth 8)) s ∧
    (∀ k : Byte, ∃ m : Memory, m.read k.toNat = some (v.setWidth 8) ∧ (∀ a, a ≠ k.toNat → m.read a = s.array.read a) ∧
      exec (.hostWr (.array k) v) s = .next { s with array := m }) ∧
    (∀ k : Byte, ∃ m : Memory, m.read k.toNat = some (v.setWidth 8) ∧ (∀ a, a ≠ k.toNat → m.read a = s.outbuf.read a) ∧
      exec (.hostWr (.outbuf k) v) s = .next { s with outbuf := m })

/-! ### Over every step -/

/-- R20 to R23, R168, R216 and the canonical memories: the memories are canonical, no command runs, the slave role is
off: the invariant holds right after reset, and no fault is recorded. -/
def Obligations.ResetMeetsTheInvariant : Prop := NoStrictFaultRecorded State.reset ∧ Inv State.reset

/-- R20 to R23, R34, R132, R168, R216: every step from a state that meets the invariant, unless a fault in the strict
sense is recorded, gives one that does, whatever the script, whatever `PHY` answers and raises. -/
def Obligations.EveryStepKeepsTheInvariant : Prop :=
  ∀ s t : State, InvUnlessFault s → step s = .next t → InvUnlessFault t

/-- R28: no step clears a bit of `SFAULT`, and only a row of the handler sets one. -/
def Obligations.FaultBitsAreSticky : Prop :=
  (∀ s t : State, step s = .next t → ∀ k, s.slv.sfault.getLsbD k = true → t.slv.sfault.getLsbD k = true) ∧
  ∀ (i : Instr) (s t : State), exec i s = .next t → isRow i = false → t.slv.sfault = s.slv.sfault

/-- R27, R34: `CAP` is constant but for `S_START`, as a command or as a host write of `CMD`; only the foreground writes
`EVT_IE`.
(Premise of R236: `NoStrictFaultRecorded`.) -/
def Obligations.CapacityAndDeliveryEnableHaveOneWriter : Prop :=
  ∀ (i : Instr) (s t : State), exec i s = .next t → NoStrictFaultRecorded t →
    (t.slv.cap ≠ s.slv.cap →
      t.slv.cap = s.opnd.aCap ∧ (i = .sStart ∨ ∃ v, i = .hostWr .cmd v ∧ decodeCmd (v.setWidth 8) = .sStart)) ∧
    (t.slv.evtIe ≠ s.slv.evtIe → i = .cli ∨ i = .sei ∨ ∃ v, i = .hostWr .evtIe v)

/-- R24, R168: `RESULT` and `RESULT_VALID` are written only where a command that returns a result does so, which leaves the
block idle: by an answer to a running command, or at once by an `M_WRITE` or `M_TRANSFER` that waits for nothing, as a command
or as a host write of `CMD`; and by a turn in which nothing completes only where a finite bound ends a running command
(R234).
(Premise of R236: `NoStrictFaultRecorded`.) -/
def Obligations.ResultIsWrittenOnlyOnReturn : Prop :=
  (∀ (i : Instr) (s t : State), exec i s = .next t → NoStrictFaultRecorded t →
    (t.mst.result = s.mst.result ∧ t.mst.resultValid = s.mst.resultValid) ∨
      (t.mst.resultValid = true ∧ t.mst.mBusy = false ∧ t.mst.mState = .idle ∧
        ((statusRow i ≠ none ∧ s.mst.mState ≠ .idle) ∨ (∃ f, i = .mWrite f) ∨ i = .mTransfer ∨
          ∃ v, i = .hostWr .cmd v ∧
            ((∃ f, decodeCmd (v.setWidth 8) = .mWrite f) ∨ decodeCmd (v.setWidth 8) = .mTransfer)))) ∧
  ∀ s : State, NoStrictFaultRecorded s →
    ((poll s).mst.result = s.mst.result ∧ (poll s).mst.resultValid = s.mst.resultValid) ∨
      ((poll s).mst.result = .fail ∧ (poll s).mst.resultValid = true ∧ (poll s).mst.mBusy = false ∧
        (poll s).mst.mState = .idle ∧ s.mst.mState ≠ .idle ∧ s.waitLimit ≠ none)

/-- R71, R168, R216, R237: in a state that meets the invariant and runs a command, nothing runs but an answer of `PHY`: every
other instruction is refused, and a row of the handler because its event cannot be delivered. -/
def Obligations.OnlyAnAnswerMovesAWaitingCommand : Prop :=
  ∀ (i : Instr) (s : State), Inv s → s.mst.mState ≠ .idle →
    (statusRow i = none → ∃ r, exec i s = .refused r) ∧ (isRow i = true → exec i s = .refused .handlerNotEnabled)

/-- R9, R20, R61, R157, R160: what a master command and its answers leave alone: the slave engine, `ARRAY`, `OUTBUF`, the
operand registers, the configuration; and of `INBUF` only the cell at `M_CNT` may change, and only while a byte is
received.
(Premise of R236: `NoStrictFaultRecorded`.) -/
def Obligations.MasterFrame : Prop :=
  ∀ (i : Instr) (s t : State), exec i s = .next t → NoStrictFaultRecorded t →
    (statusRow i ≠ none ∨ (∃ d, i = .mStart d) ∨ i = .mStop ∨ (∃ f, i = .mWrite f) ∨ (∃ f, i = .mRead f) ∨
      i = .mTransfer) →
    t.slv = s.slv ∧ t.array = s.array ∧ t.outbuf = s.outbuf ∧ t.opnd = s.opnd ∧ t.clk = s.clk ∧
    t.hostData = s.hostData ∧ t.draws = s.draws ∧
    (∀ a, (s.mst.mState ≠ .rxWait ∨ a ≠ s.mst.mCnt.toNat) → t.inbuf.read a = s.inbuf.read a)

/-! ### Whole commands and whole sessions -/

/-- R157, R158, R159: a write, in all four framings, whose N data bytes and, if it opens, whose start and address are all
acknowledged, is (if it opens) one start and one address byte, then the N bytes of `OUTBUF` in order, one stop exactly if the
framing closes, and success.
(Premise of R236: `NoStrictFaultRecorded`.) -/
def Obligations.AcknowledgedWriteSendsEveryByteInOrder : Prop :=
  ∀ (s : State) (f : Framing) (byte : Nat → Byte) (start r0 r1 : Byte) (rs : List Byte),
    NoStrictFaultRecorded s → MasterReady s →
    (f.opens = true → s.opnd.addrWritten = true) → s.opnd.lenWritten = true → start = 0x08#8 ∨ start = 0x10#8 →
    rs.length = s.opnd.aLen.toNat → (∀ k, k < s.opnd.aLen.toNat → s.outbuf.read k = some (byte k)) →
    ∃ t, answered ((if f.opens then [(start, r0), (0x18#8, r1)] else []) ++ rs.map (fun r => (0x28#8, r)))
        (exec (.mWrite f) s) = .next t ∧
      t.mst.mState = .idle ∧ t.mst.mBusy = false ∧ t.mst.resultValid = true ∧ t.mst.result = .ok ∧
      t.outbuf = s.outbuf ∧ t.inbuf = s.inbuf ∧ t.array = s.array ∧ t.slv = s.slv ∧
      t.trace = (if f.closes then [.issueStop] else []) ++
        (List.range s.opnd.aLen.toNat).reverse.map (fun k => .transmitByte (byte k)) ++
        (if f.opens then [.transmitByte (addrByte s.opnd.aAddr .write), .currentStatus start, .issueStart] else []) ++
        s.trace

/-- R157, R158, R159, R233, R271: a write, in all four framings, whose data byte `k` is the first not acknowledged sends `k + 1`
bytes, fails, and whatever the framing issues no stop: the bus session it opened, or found open, is left open.
(Premise of R236: `NoStrictFaultRecorded`.) -/
def Obligations.RejectedDataByteLeavesTheBusHeld : Prop :=
  ∀ (s : State) (f : Framing) (byte : Nat → Byte) (start bad r0 r1 r2 : Byte) (rs : List Byte),
    NoStrictFaultRecorded s → MasterReady s →
    (f.opens = true → s.opnd.addrWritten = true) → s.opnd.lenWritten = true → start = 0x08#8 ∨ start = 0x10#8 →
    bad ≠ 0x28#8 → rs.length < s.opnd.aLen.toNat →
    (∀ k, k < s.opnd.aLen.toNat → s.outbuf.read k = some (byte k)) →
    ∃ t, answered ((if f.opens then [(start, r0), (0x18#8, r1)] else []) ++
          (rs.map (fun r => (0x28#8, r)) ++ [(bad, r2)])) (exec (.mWrite f) s) = .next t ∧
      t.mst.mState = .idle ∧ t.mst.mBusy = false ∧ t.mst.resultValid = true ∧ t.mst.result = .fail ∧
      heldOpen t.trace = (f.opens || heldOpen s.trace) ∧
      t.trace = [.raised .dataRejected] ++
        (List.range (rs.length + 1)).reverse.map (fun k => .transmitByte (byte k)) ++
        (if f.opens then [.transmitByte (addrByte s.opnd.aAddr .write), .currentStatus start, .issueStart] else []) ++
        s.trace

/-- R160, R161, R162: a read of L bytes, in all four framings, whose start and address, if it opens, are accepted, stores the L
received bytes in order from offset 0, whatever their statuses, with L - 1 acknowledged receives and then exactly one not
acknowledged, a stop exactly if the framing closes, and success.
(Premise of R236: `NoStrictFaultRecorded`.) -/
def Obligations.ReadAcknowledgesAllButTheLastByte : Prop :=
  ∀ (s : State) (f : Framing) (start r0 r1 : Byte) (rs : List (Byte × Byte)),
    NoStrictFaultRecorded s → MasterReady s →
    (f.opens = true → s.opnd.addrWritten = true) → s.opnd.lenWritten = true → start = 0x08#8 ∨ start = 0x10#8 →
    rs.length = s.opnd.aLen.toNat → 0 < s.opnd.aLen.toNat →
    ∃ t, answered ((if f.opens then [(start, r0), (0x40#8, r1)] else []) ++ rs) (exec (.mRead f) s) = .next t ∧
      t.mst.mState = .idle ∧ t.mst.mBusy = false ∧ t.mst.resultValid = true ∧ t.mst.result = .ok ∧
      (∀ (k : Nat) (h : k < rs.length), t.inbuf.read k = some rs[k].2) ∧
      (∀ a, rs.length ≤ a → t.inbuf.read a = s.inbuf.read a) ∧
      t.trace = (if f.closes then [.issueStop] else []) ++ [.receiveByte .nack] ++
        List.replicate (rs.length - 1) (.receiveByte .ack) ++
        (if f.opens then [.transmitByte (addrByte s.opnd.aAddr .read), .currentStatus start, .issueStart] else []) ++
        s.trace

/-- R166: `M_TRANSFER a, n, m` has the same trace, the same effect on `INBUF` and the same result as `M_WRITE a, n, Start`,
`M_READ a, m, Start`, `M_STOP`, stopping at the first failure, whatever `PHY` answers, for every run in which the transfer
returns.
(Premise of R236: `NoStrictFaultRecorded`.) -/
def Obligations.TransferEqualsTheSimplerCommands : Prop :=
  ∀ (s t u : State) (as rest rest' : List (Byte × Byte)) (r : CmdResult), NoStrictFaultRecorded s → MasterReady s →
    s.opnd.addrWritten = true → s.opnd.lenWritten = true → s.opnd.ilenWritten = true →
    (∀ k, k < s.opnd.aLen.toNat → s.outbuf.read k ≠ none) →
    (∃ v, exec .mTransfer s = .next v ∧ drive as v = (t, rest)) → t.mst.mState = .idle →
    simplerCommands s as = (u, r, rest') →
    u.trace = t.trace ∧ u.inbuf = t.inbuf ∧ r = t.mst.result ∧ rest' = rest

/-- R194, first row: a write session whose offset is at most `CAP - 2`, against a `PHY` that honours `ACK_NEXT`, stores every
data byte in range and in order, records no fault, and leaves the cursor one past the last byte, or at 0 after the byte that
fills the file.
(Premise of R236: `NoStrictFaultRecorded`.) -/
def Obligations.WriteSessionStaysInsideTheFile : Prop :=
  ∀ (s : State) (r idx : Byte) (ds : List Byte), NoStrictFaultRecorded s → s.slv.sEn = true → s.slv.evtIe = true →
    s.slv.evtPending = false → s.phy.listening = true → idx.toNat + 2 ≤ s.slv.cap.toNat →
    ds.length ≤ s.slv.cap.toNat - idx.toNat →
    ∃ t, writeSession r idx ds s = .next t ∧ t.slv.sfault = s.slv.sfault ∧
      (∀ (k : Nat) (h : k < ds.length), t.array.read (idx.toNat + k) = some ds[k]) ∧
      (∀ a, a < idx.toNat ∨ idx.toNat + ds.length ≤ a → t.array.read a = s.array.read a) ∧
      t.slv.index.toNat = (if ds.length = s.slv.cap.toNat - idx.toNat then 0 else idx.toNat + ds.length) ∧
      t.slv.sPhase = (if ds.length = s.slv.cap.toNat - idx.toNat then .awaitingIndex else .receivingData)

/-- R195, first row: a read session from a cursor inside the file supplies the cells in order from the cursor, leaves `ARRAY`,
records no fault, and switches to no-acknowledge exactly when the last cell has been loaded.
(Premise of R236: `NoStrictFaultRecorded`.) -/
def Obligations.ReadSessionSuppliesTheFileInOrder : Prop :=
  ∀ (s : State) (r : Byte) (n : Nat) (cell : Nat → Byte), NoStrictFaultRecorded s → s.slv.sEn = true →
    s.slv.evtIe = true →
    s.slv.evtPending = false → s.phy.listening = true → 0 < n → s.slv.index.toNat + n ≤ s.slv.cap.toNat →
    (∀ k, k < n → s.array.read (s.slv.index.toNat + k) = some (cell k)) →
    ∃ t, supplied true r n s = ((List.range n).map cell, .next t) ∧ t.array = s.array ∧ t.slv.sfault = s.slv.sfault ∧
      t.slv.index.toNat = s.slv.index.toNat + n ∧ t.slv.sPhase = s.slv.sPhase ∧
      t.slv.ackNext = (if s.slv.index.toNat + n < s.slv.cap.toNat then .ack else .nack)

/-- R28, R236: no fault recorded at the end of a run is the premise that covers the whole of it.
A row of the handler leaves no fault in the strict sense recorded exactly if none was and it stored or loaded inside the file,
if it stores or loads; it leaves no bit set exactly if moreover none was and it is neither the cell the source lacks nor the
recovery row; and a run that ends with no such fault, or with no bit set, had none after any of its steps. -/
def Obligations.FaultFreeRunsStayInsideTheFile : Prop :=
  (∀ (i : Instr) (s t : State), isRow i = true → exec i s = .next t →
    (NoStrictFaultRecorded t ↔
      NoStrictFaultRecorded s ∧
        (i ∈ [.evtStSrDataAckReceivingData, .evtStSrDataNackReceivingData, .evtStStSlaAck, .evtStStDataAck] →
          s.slv.index.toNat < s.slv.cap.toNat)) ∧
    (NoFaultRecorded t ↔
      NoFaultRecorded s ∧ NoStrictFaultRecorded t ∧ i ≠ .evtStSrDataNackAwaitingIndex ∧ recoveryRow i = none)) ∧
  ∀ (k j : Nat) (s t : State), j ≤ k → Sys2Proof.core.run k s = .next t →
    ∃ u : State, Sys2Proof.core.run j s = .next u ∧
      (NoStrictFaultRecorded t → NoStrictFaultRecorded u) ∧ (NoFaultRecorded t → NoFaultRecorded u)
end

