-- ==== Sys2Proof/Laws/Decode.lean ====
section
/-! SUPPORT. What the decoder does at each port, and that the numbers of the host port's locations and the status table are
read back. -/

namespace Sys2Proof

theorem decode_encodeCmd (ph : ReceivePhase) (b : Byte) : decode ph (encodeCmd b) = .ok (decodeCmd b) := by
  have := b.isLt
  simp [decode, encodeCmd, Port.width, Port.argWidth, BitVec.setWidth_setWidth_of_le]
  omega

theorem decode_encodeStatus (ph : ReceivePhase) (code rx : Byte) :
    decode ph (encodeStatus code rx) = .ok (decodeStatus code rx) := by
  have h1 := code.isLt
  have h2 := rx.isLt
  have h3 : ¬ 256 ≤ code.toNat % 4294967296 := by omega
  have h4 : ¬ 256 ≤ rx.toNat % 65536 := by omega
  simp [decode, encodeStatus, Port.width, Port.argWidth, BitVec.setWidth_setWidth_of_le, h3, h4]

theorem decode_encodeEvt (ph : ReceivePhase) (code : Byte) : decode ph (encodeEvt code) = .ok (decodeEvt code ph) := by
  have := code.isLt
  simp [decode, encodeEvt, Port.width, Port.argWidth, BitVec.setWidth_setWidth_of_le]
  omega

theorem decode_encodeHpi (ph : ReceivePhase) (hop : BitVec 4) (harg : Byte) :
    decode ph (encodeHpi hop harg) = decodeHpi (hop ++ harg) := by
  have h := (hop ++ harg).isLt
  simp only [Nat.reduceAdd, Nat.reducePow] at h
  have h3 : ¬ 4096 ≤ (hop ++ harg).toNat := by omega
  simp only [decode, encodeHpi, Port.width, Port.argWidth, Nat.reducePow, BitVec.toNat_setWidth]
  rw [Nat.mod_eq_of_lt (by omega)]
  simp [h3, BitVec.setWidth_setWidth_of_le]

theorem decodeRdTarget_number (x : RdTarget) : decodeRdTarget x.number = .ok x := by
  cases x with
  | array i => revert i; decide
  | inbuf i => revert i; decide
  | _ => rfl

theorem decodeWrTarget_number (x : WrTarget) : decodeWrTarget x.number = .ok x := by
  cases x with
  | array i => revert i; decide
  | outbuf i => revert i; decide
  | _ => rfl

/-- The values outside R97's table are of class UNKNOWN (R96). -/
theorem classify_unknown {b : Byte} : namedStatusBytes.contains b = false ↔ classify b = .unknown := by
  revert b; decide

/-- Each named status byte is classified as the name its row of R97 gives it. -/
theorem classify_named : ∀ p ∈ statusTable, classify p.1 = p.2 := by decide

/-- No two rows of R97's table share a value or a name. -/
theorem statusTable_injective : (statusTable.map Prod.fst).Nodup ∧ (statusTable.map Prod.snd).Nodup := by decide

/-- The fifteen legal bytes of R107 are those the decoder gives an operation. -/
theorem decodeCmd_legal {b : Byte} : legalCmdBytes.contains b = true ↔ decodeCmd b ≠ .cmdReserved b := by
  revert b; decide

end Sys2Proof
end

