-- ==== Sys2Proof/Laws/Memory.lean ====
section
/-! SUPPORT. The laws of the byte memories: read after write, and that a write keeps the canonical form (R63). -/

namespace Sys2Proof.Machine

theorem Memory.read_write_same (m : Memory) (a : Nat) (v : Byte) : (m.write a v).read a = some v := by
  induction m with
  | nil => simp [Memory.write, Memory.read]
  | cons c rest ih =>
    obtain ⟨k, b⟩ := c
    unfold Memory.write
    split_ifs with h1 h2
    · simp [Memory.read]
    · simp [Memory.read]
    · simp [Memory.read, Ne.symm h2, ih]

theorem Memory.read_write_other (m : Memory) {a a' : Nat} (v : Byte) (h : a' ≠ a) : (m.write a v).read a' = m.read a' := by
  induction m with
  | nil => simp [Memory.write, Memory.read, h.symm]
  | cons c rest ih =>
    obtain ⟨k, b⟩ := c
    unfold Memory.write
    split_ifs with h1 h2
    · simp [Memory.read, h.symm]
    · subst h2; simp [Memory.read, h.symm]
    · simp [Memory.read, ih]

theorem Memory.risingFrom_write {lo : Nat} {m : Memory} {a : Nat} (v : Byte) (hm : m.risingFrom lo = true) (hlo : lo ≤ a)
    (ha : a < Config.cells) : (m.write a v).risingFrom lo = true := by
  induction m generalizing lo with
  | nil => simp [Memory.write, Memory.risingFrom, hlo, ha]
  | cons c rest ih =>
    obtain ⟨k, b⟩ := c
    simp only [Memory.risingFrom, Bool.and_eq_true, decide_eq_true_eq] at hm
    unfold Memory.write
    split_ifs with h1 h2
    · simp only [Memory.risingFrom, Bool.and_eq_true, decide_eq_true_eq]
      exact ⟨⟨hlo, ha⟩, ⟨by omega, hm.1.2⟩, hm.2⟩
    · subst h2
      simp only [Memory.risingFrom, Bool.and_eq_true, decide_eq_true_eq]
      exact ⟨⟨hlo, ha⟩, hm.2⟩
    · simp only [Memory.risingFrom, Bool.and_eq_true, decide_eq_true_eq]
      exact ⟨hm.1, ih hm.2 (by omega)⟩

/-- Every write at a byte offset keeps the canonical form. -/
theorem Memory.wf_write {m : Memory} (i : Byte) (v : Byte) (hm : m.wf = true) : (m.write i.toNat v).wf = true :=
  Memory.risingFrom_write v hm (Nat.zero_le _) i.isLt

theorem reset_array_wf : State.reset.array.wf = true := rfl
theorem reset_outbuf_wf : State.reset.outbuf.wf = true := rfl
theorem reset_inbuf_wf : State.reset.inbuf.wf = true := rfl

end Sys2Proof.Machine
end

