-- ==== Sys2Proof/Laws/State.lean ====
section
/-! SUPPORT. For every update of the state, what it leaves in each field: true by rfl, so that no proof unfolds an update. -/

namespace Sys2Proof.Machine

variable (s : State)

/-! ### log -/

@[simp] theorem log_script (e : TraceEntry) : (State.log e s).script = s.script := rfl
@[simp] theorem log_opnd (e : TraceEntry) : (State.log e s).opnd = s.opnd := rfl
@[simp] theorem log_mst (e : TraceEntry) : (State.log e s).mst = s.mst := rfl
@[simp] theorem log_clk (e : TraceEntry) : (State.log e s).clk = s.clk := rfl
@[simp] theorem log_slv (e : TraceEntry) : (State.log e s).slv = s.slv := rfl
@[simp] theorem log_array (e : TraceEntry) : (State.log e s).array = s.array := rfl
@[simp] theorem log_outbuf (e : TraceEntry) : (State.log e s).outbuf = s.outbuf := rfl
@[simp] theorem log_inbuf (e : TraceEntry) : (State.log e s).inbuf = s.inbuf := rfl
@[simp] theorem log_phy (e : TraceEntry) : (State.log e s).phy = s.phy := rfl
@[simp] theorem log_hostData (e : TraceEntry) : (State.log e s).hostData = s.hostData := rfl
@[simp] theorem log_draws (e : TraceEntry) : (State.log e s).draws = s.draws := rfl
@[simp] theorem log_waitLimit (e : TraceEntry) : (State.log e s).waitLimit = s.waitLimit := rfl
@[simp] theorem log_trace (e : TraceEntry) : (State.log e s).trace = e :: s.trace := rfl

/-! ### request -/

@[simp] theorem request_script (b : BusStep) : (request b s).script = s.script := rfl
@[simp] theorem request_opnd (b : BusStep) : (request b s).opnd = s.opnd := rfl
@[simp] theorem request_mst (b : BusStep) : (request b s).mst = s.mst := rfl
@[simp] theorem request_clk (b : BusStep) : (request b s).clk = s.clk := rfl
@[simp] theorem request_slv (b : BusStep) : (request b s).slv = s.slv := rfl
@[simp] theorem request_array (b : BusStep) : (request b s).array = s.array := rfl
@[simp] theorem request_outbuf (b : BusStep) : (request b s).outbuf = s.outbuf := rfl
@[simp] theorem request_inbuf (b : BusStep) : (request b s).inbuf = s.inbuf := rfl
@[simp] theorem request_phy (b : BusStep) : (request b s).phy = { s.phy with step := some b, polls := 0 } := rfl
@[simp] theorem request_hostData (b : BusStep) : (request b s).hostData = s.hostData := rfl
@[simp] theorem request_draws (b : BusStep) : (request b s).draws = s.draws := rfl
@[simp] theorem request_waitLimit (b : BusStep) : (request b s).waitLimit = s.waitLimit := rfl
@[simp] theorem request_trace (b : BusStep) : (request b s).trace = s.trace := rfl

/-! ### configureClock -/

@[simp] theorem configureClock_script : (configureClock s).script = s.script := rfl
@[simp] theorem configureClock_opnd : (configureClock s).opnd = s.opnd := rfl
@[simp] theorem configureClock_mst : (configureClock s).mst = s.mst := rfl
@[simp] theorem configureClock_clk : (configureClock s).clk = s.clk := rfl
@[simp] theorem configureClock_slv : (configureClock s).slv = s.slv := rfl
@[simp] theorem configureClock_array : (configureClock s).array = s.array := rfl
@[simp] theorem configureClock_outbuf : (configureClock s).outbuf = s.outbuf := rfl
@[simp] theorem configureClock_inbuf : (configureClock s).inbuf = s.inbuf := rfl
@[simp] theorem configureClock_phy : (configureClock s).phy = s.phy := rfl
@[simp] theorem configureClock_hostData : (configureClock s).hostData = s.hostData := rfl
@[simp] theorem configureClock_draws : (configureClock s).draws = s.draws := rfl
@[simp] theorem configureClock_waitLimit : (configureClock s).waitLimit = s.waitLimit := rfl
@[simp] theorem configureClock_trace : (configureClock s).trace = .configureClock s.clk.rate s.clk.pullups :: s.trace := rfl

/-! ### issueStart -/

@[simp] theorem issueStart_script : (issueStart s).script = s.script := rfl
@[simp] theorem issueStart_opnd : (issueStart s).opnd = s.opnd := rfl
@[simp] theorem issueStart_mst : (issueStart s).mst = s.mst := rfl
@[simp] theorem issueStart_clk : (issueStart s).clk = s.clk := rfl
@[simp] theorem issueStart_slv : (issueStart s).slv = s.slv := rfl
@[simp] theorem issueStart_array : (issueStart s).array = s.array := rfl
@[simp] theorem issueStart_outbuf : (issueStart s).outbuf = s.outbuf := rfl
@[simp] theorem issueStart_inbuf : (issueStart s).inbuf = s.inbuf := rfl
@[simp] theorem issueStart_phy : (issueStart s).phy = { s.phy with step := some .start, polls := 0 } := rfl
@[simp] theorem issueStart_hostData : (issueStart s).hostData = s.hostData := rfl
@[simp] theorem issueStart_draws : (issueStart s).draws = s.draws := rfl
@[simp] theorem issueStart_waitLimit : (issueStart s).waitLimit = s.waitLimit := rfl
@[simp] theorem issueStart_trace : (issueStart s).trace = .issueStart :: s.trace := rfl

/-! ### issueStop -/

@[simp] theorem issueStop_script : (issueStop s).script = s.script := rfl
@[simp] theorem issueStop_opnd : (issueStop s).opnd = s.opnd := rfl
@[simp] theorem issueStop_mst : (issueStop s).mst = s.mst := rfl
@[simp] theorem issueStop_clk : (issueStop s).clk = s.clk := rfl
@[simp] theorem issueStop_slv : (issueStop s).slv = s.slv := rfl
@[simp] theorem issueStop_array : (issueStop s).array = s.array := rfl
@[simp] theorem issueStop_outbuf : (issueStop s).outbuf = s.outbuf := rfl
@[simp] theorem issueStop_inbuf : (issueStop s).inbuf = s.inbuf := rfl
@[simp] theorem issueStop_phy : (issueStop s).phy = s.phy := rfl
@[simp] theorem issueStop_hostData : (issueStop s).hostData = s.hostData := rfl
@[simp] theorem issueStop_draws : (issueStop s).draws = s.draws := rfl
@[simp] theorem issueStop_waitLimit : (issueStop s).waitLimit = s.waitLimit := rfl
@[simp] theorem issueStop_trace : (issueStop s).trace = .issueStop :: s.trace := rfl

/-! ### transmitByte -/

@[simp] theorem transmitByte_script (b : Byte) : (transmitByte b s).script = s.script := rfl
@[simp] theorem transmitByte_opnd (b : Byte) : (transmitByte b s).opnd = s.opnd := rfl
@[simp] theorem transmitByte_mst (b : Byte) : (transmitByte b s).mst = s.mst := rfl
@[simp] theorem transmitByte_clk (b : Byte) : (transmitByte b s).clk = s.clk := rfl
@[simp] theorem transmitByte_slv (b : Byte) : (transmitByte b s).slv = s.slv := rfl
@[simp] theorem transmitByte_array (b : Byte) : (transmitByte b s).array = s.array := rfl
@[simp] theorem transmitByte_outbuf (b : Byte) : (transmitByte b s).outbuf = s.outbuf := rfl
@[simp] theorem transmitByte_inbuf (b : Byte) : (transmitByte b s).inbuf = s.inbuf := rfl
@[simp] theorem transmitByte_phy (b : Byte) : (transmitByte b s).phy = { s.phy with step := some (.transmit b), polls := 0 } := rfl
@[simp] theorem transmitByte_hostData (b : Byte) : (transmitByte b s).hostData = s.hostData := rfl
@[simp] theorem transmitByte_draws (b : Byte) : (transmitByte b s).draws = s.draws := rfl
@[simp] theorem transmitByte_waitLimit (b : Byte) : (transmitByte b s).waitLimit = s.waitLimit := rfl
@[simp] theorem transmitByte_trace (b : Byte) : (transmitByte b s).trace = .transmitByte b :: s.trace := rfl

/-! ### receiveByte -/

@[simp] theorem receiveByte_script (p : AckPolicy) : (receiveByte p s).script = s.script := rfl
@[simp] theorem receiveByte_opnd (p : AckPolicy) : (receiveByte p s).opnd = s.opnd := rfl
@[simp] theorem receiveByte_mst (p : AckPolicy) : (receiveByte p s).mst = s.mst := rfl
@[simp] theorem receiveByte_clk (p : AckPolicy) : (receiveByte p s).clk = s.clk := rfl
@[simp] theorem receiveByte_slv (p : AckPolicy) : (receiveByte p s).slv = s.slv := rfl
@[simp] theorem receiveByte_array (p : AckPolicy) : (receiveByte p s).array = s.array := rfl
@[simp] theorem receiveByte_outbuf (p : AckPolicy) : (receiveByte p s).outbuf = s.outbuf := rfl
@[simp] theorem receiveByte_inbuf (p : AckPolicy) : (receiveByte p s).inbuf = s.inbuf := rfl
@[simp] theorem receiveByte_phy (p : AckPolicy) : (receiveByte p s).phy = { s.phy with step := some (.receive p), polls := 0 } := rfl
@[simp] theorem receiveByte_hostData (p : AckPolicy) : (receiveByte p s).hostData = s.hostData := rfl
@[simp] theorem receiveByte_draws (p : AckPolicy) : (receiveByte p s).draws = s.draws := rfl
@[simp] theorem receiveByte_waitLimit (p : AckPolicy) : (receiveByte p s).waitLimit = s.waitLimit := rfl
@[simp] theorem receiveByte_trace (p : AckPolicy) : (receiveByte p s).trace = .receiveByte p :: s.trace := rfl

/-! ### currentStatus -/

@[simp] theorem currentStatus_script : (currentStatus s).script = s.script := rfl
@[simp] theorem currentStatus_opnd : (currentStatus s).opnd = s.opnd := rfl
@[simp] theorem currentStatus_mst : (currentStatus s).mst = s.mst := rfl
@[simp] theorem currentStatus_clk : (currentStatus s).clk = s.clk := rfl
@[simp] theorem currentStatus_slv : (currentStatus s).slv = s.slv := rfl
@[simp] theorem currentStatus_array : (currentStatus s).array = s.array := rfl
@[simp] theorem currentStatus_outbuf : (currentStatus s).outbuf = s.outbuf := rfl
@[simp] theorem currentStatus_inbuf : (currentStatus s).inbuf = s.inbuf := rfl
@[simp] theorem currentStatus_phy : (currentStatus s).phy = s.phy := rfl
@[simp] theorem currentStatus_hostData : (currentStatus s).hostData = s.hostData := rfl
@[simp] theorem currentStatus_draws : (currentStatus s).draws = s.draws := rfl
@[simp] theorem currentStatus_waitLimit : (currentStatus s).waitLimit = s.waitLimit := rfl
@[simp] theorem currentStatus_trace : (currentStatus s).trace = .currentStatus s.phy.status :: s.trace := rfl

/-! ### enableSlave -/

@[simp] theorem enableSlave_script (a : BusAddr) : (enableSlave a s).script = s.script := rfl
@[simp] theorem enableSlave_opnd (a : BusAddr) : (enableSlave a s).opnd = s.opnd := rfl
@[simp] theorem enableSlave_mst (a : BusAddr) : (enableSlave a s).mst = s.mst := rfl
@[simp] theorem enableSlave_clk (a : BusAddr) : (enableSlave a s).clk = s.clk := rfl
@[simp] theorem enableSlave_slv (a : BusAddr) : (enableSlave a s).slv = s.slv := rfl
@[simp] theorem enableSlave_array (a : BusAddr) : (enableSlave a s).array = s.array := rfl
@[simp] theorem enableSlave_outbuf (a : BusAddr) : (enableSlave a s).outbuf = s.outbuf := rfl
@[simp] theorem enableSlave_inbuf (a : BusAddr) : (enableSlave a s).inbuf = s.inbuf := rfl
@[simp] theorem enableSlave_phy (a : BusAddr) : (enableSlave a s).phy = { s.phy with listening := true } := rfl
@[simp] theorem enableSlave_hostData (a : BusAddr) : (enableSlave a s).hostData = s.hostData := rfl
@[simp] theorem enableSlave_draws (a : BusAddr) : (enableSlave a s).draws = s.draws := rfl
@[simp] theorem enableSlave_waitLimit (a : BusAddr) : (enableSlave a s).waitLimit = s.waitLimit := rfl
@[simp] theorem enableSlave_trace (a : BusAddr) : (enableSlave a s).trace = .enableSlave a :: s.trace := rfl

/-! ### disableSlave -/

@[simp] theorem disableSlave_script : (disableSlave s).script = s.script := rfl
@[simp] theorem disableSlave_opnd : (disableSlave s).opnd = s.opnd := rfl
@[simp] theorem disableSlave_mst : (disableSlave s).mst = s.mst := rfl
@[simp] theorem disableSlave_clk : (disableSlave s).clk = s.clk := rfl
@[simp] theorem disableSlave_slv : (disableSlave s).slv = s.slv := rfl
@[simp] theorem disableSlave_array : (disableSlave s).array = s.array := rfl
@[simp] theorem disableSlave_outbuf : (disableSlave s).outbuf = s.outbuf := rfl
@[simp] theorem disableSlave_inbuf : (disableSlave s).inbuf = s.inbuf := rfl
@[simp] theorem disableSlave_phy : (disableSlave s).phy = { s.phy with listening := false } := rfl
@[simp] theorem disableSlave_hostData : (disableSlave s).hostData = s.hostData := rfl
@[simp] theorem disableSlave_draws : (disableSlave s).draws = s.draws := rfl
@[simp] theorem disableSlave_waitLimit : (disableSlave s).waitLimit = s.waitLimit := rfl
@[simp] theorem disableSlave_trace : (disableSlave s).trace = .disableSlave :: s.trace := rfl

/-! ### rearm -/

@[simp] theorem rearm_script (p : AckPolicy) (stop : Bool) : (rearm p stop s).script = s.script := rfl
@[simp] theorem rearm_opnd (p : AckPolicy) (stop : Bool) : (rearm p stop s).opnd = s.opnd := rfl
@[simp] theorem rearm_mst (p : AckPolicy) (stop : Bool) : (rearm p stop s).mst = s.mst := rfl
@[simp] theorem rearm_clk (p : AckPolicy) (stop : Bool) : (rearm p stop s).clk = s.clk := rfl
@[simp] theorem rearm_slv (p : AckPolicy) (stop : Bool) : (rearm p stop s).slv = { s.slv with ackNext := p, evtPending := false } := rfl
@[simp] theorem rearm_array (p : AckPolicy) (stop : Bool) : (rearm p stop s).array = s.array := rfl
@[simp] theorem rearm_outbuf (p : AckPolicy) (stop : Bool) : (rearm p stop s).outbuf = s.outbuf := rfl
@[simp] theorem rearm_inbuf (p : AckPolicy) (stop : Bool) : (rearm p stop s).inbuf = s.inbuf := rfl
@[simp] theorem rearm_phy (p : AckPolicy) (stop : Bool) : (rearm p stop s).phy = s.phy := rfl
@[simp] theorem rearm_hostData (p : AckPolicy) (stop : Bool) : (rearm p stop s).hostData = s.hostData := rfl
@[simp] theorem rearm_draws (p : AckPolicy) (stop : Bool) : (rearm p stop s).draws = s.draws := rfl
@[simp] theorem rearm_waitLimit (p : AckPolicy) (stop : Bool) : (rearm p stop s).waitLimit = s.waitLimit := rfl
@[simp] theorem rearm_trace (p : AckPolicy) (stop : Bool) : (rearm p stop s).trace = .rearm p stop :: s.trace := rfl

/-! ### returnResult -/

@[simp] theorem returnResult_script (r : CmdResult) : (returnResult r s).script = s.script := rfl
@[simp] theorem returnResult_opnd (r : CmdResult) : (returnResult r s).opnd = s.opnd := rfl
@[simp] theorem returnResult_mst (r : CmdResult) : (returnResult r s).mst = { s.mst with result := r, resultValid := true, mBusy := false, mState := .idle } := rfl
@[simp] theorem returnResult_clk (r : CmdResult) : (returnResult r s).clk = s.clk := rfl
@[simp] theorem returnResult_slv (r : CmdResult) : (returnResult r s).slv = s.slv := rfl
@[simp] theorem returnResult_array (r : CmdResult) : (returnResult r s).array = s.array := rfl
@[simp] theorem returnResult_outbuf (r : CmdResult) : (returnResult r s).outbuf = s.outbuf := rfl
@[simp] theorem returnResult_inbuf (r : CmdResult) : (returnResult r s).inbuf = s.inbuf := rfl
@[simp] theorem returnResult_phy (r : CmdResult) : (returnResult r s).phy = s.phy := rfl
@[simp] theorem returnResult_hostData (r : CmdResult) : (returnResult r s).hostData = s.hostData := rfl
@[simp] theorem returnResult_draws (r : CmdResult) : (returnResult r s).draws = s.draws := rfl
@[simp] theorem returnResult_waitLimit (r : CmdResult) : (returnResult r s).waitLimit = s.waitLimit := rfl
@[simp] theorem returnResult_trace (r : CmdResult) : (returnResult r s).trace = s.trace := rfl

/-! ### raiseFailure -/

@[simp] theorem raiseFailure_script (c : Cause) : (raiseFailure c s).script = s.script := rfl
@[simp] theorem raiseFailure_opnd (c : Cause) : (raiseFailure c s).opnd = s.opnd := rfl
@[simp] theorem raiseFailure_mst (c : Cause) : (raiseFailure c s).mst = { s.mst with result := .fail, resultValid := true, mBusy := false, mState := .idle } := rfl
@[simp] theorem raiseFailure_clk (c : Cause) : (raiseFailure c s).clk = s.clk := rfl
@[simp] theorem raiseFailure_slv (c : Cause) : (raiseFailure c s).slv = s.slv := rfl
@[simp] theorem raiseFailure_array (c : Cause) : (raiseFailure c s).array = s.array := rfl
@[simp] theorem raiseFailure_outbuf (c : Cause) : (raiseFailure c s).outbuf = s.outbuf := rfl
@[simp] theorem raiseFailure_inbuf (c : Cause) : (raiseFailure c s).inbuf = s.inbuf := rfl
@[simp] theorem raiseFailure_phy (c : Cause) : (raiseFailure c s).phy = s.phy := rfl
@[simp] theorem raiseFailure_hostData (c : Cause) : (raiseFailure c s).hostData = s.hostData := rfl
@[simp] theorem raiseFailure_draws (c : Cause) : (raiseFailure c s).draws = s.draws := rfl
@[simp] theorem raiseFailure_waitLimit (c : Cause) : (raiseFailure c s).waitLimit = s.waitLimit := rfl
@[simp] theorem raiseFailure_trace (c : Cause) : (raiseFailure c s).trace = .raised c :: s.trace := rfl

/-! ### beginStart -/

@[simp] theorem beginStart_script (d : Direction) : (beginStart d s).script = s.script := rfl
@[simp] theorem beginStart_opnd (d : Direction) : (beginStart d s).opnd = s.opnd := rfl
@[simp] theorem beginStart_mst (d : Direction) : (beginStart d s).mst = { s.mst with mDir := d, mState := .startWait } := rfl
@[simp] theorem beginStart_clk (d : Direction) : (beginStart d s).clk = s.clk := rfl
@[simp] theorem beginStart_slv (d : Direction) : (beginStart d s).slv = s.slv := rfl
@[simp] theorem beginStart_array (d : Direction) : (beginStart d s).array = s.array := rfl
@[simp] theorem beginStart_outbuf (d : Direction) : (beginStart d s).outbuf = s.outbuf := rfl
@[simp] theorem beginStart_inbuf (d : Direction) : (beginStart d s).inbuf = s.inbuf := rfl
@[simp] theorem beginStart_phy (d : Direction) : (beginStart d s).phy = { s.phy with step := some .start, polls := 0 } := rfl
@[simp] theorem beginStart_hostData (d : Direction) : (beginStart d s).hostData = s.hostData := rfl
@[simp] theorem beginStart_draws (d : Direction) : (beginStart d s).draws = s.draws := rfl
@[simp] theorem beginStart_waitLimit (d : Direction) : (beginStart d s).waitLimit = s.waitLimit := rfl
@[simp] theorem beginStart_trace (d : Direction) : (beginStart d s).trace = .issueStart :: s.trace := rfl

/-! ### sendAddress -/

@[simp] theorem sendAddress_script : (sendAddress s).script = s.script := rfl
@[simp] theorem sendAddress_opnd : (sendAddress s).opnd = s.opnd := rfl
@[simp] theorem sendAddress_mst : (sendAddress s).mst = { s.mst with mState := .addrWait } := rfl
@[simp] theorem sendAddress_clk : (sendAddress s).clk = s.clk := rfl
@[simp] theorem sendAddress_slv : (sendAddress s).slv = s.slv := rfl
@[simp] theorem sendAddress_array : (sendAddress s).array = s.array := rfl
@[simp] theorem sendAddress_outbuf : (sendAddress s).outbuf = s.outbuf := rfl
@[simp] theorem sendAddress_inbuf : (sendAddress s).inbuf = s.inbuf := rfl
@[simp] theorem sendAddress_phy : (sendAddress s).phy = { s.phy with step := some (.transmit (addrByte s.mst.mAddr s.mst.mDir)), polls := 0 } := rfl
@[simp] theorem sendAddress_hostData : (sendAddress s).hostData = s.hostData := rfl
@[simp] theorem sendAddress_draws : (sendAddress s).draws = s.draws := rfl
@[simp] theorem sendAddress_waitLimit : (sendAddress s).waitLimit = s.waitLimit := rfl
@[simp] theorem sendAddress_trace : (sendAddress s).trace = .transmitByte (addrByte s.mst.mAddr s.mst.mDir) :: s.trace := rfl

/-! ### receiveFrom -/

@[simp] theorem receiveFrom_script (i : Nat) : (receiveFrom i s).script = s.script := rfl
@[simp] theorem receiveFrom_opnd (i : Nat) : (receiveFrom i s).opnd = s.opnd := rfl
@[simp] theorem receiveFrom_mst (i : Nat) : (receiveFrom i s).mst = { s.mst with mCnt := BitVec.ofNat 8 i, mState := .rxWait } := rfl
@[simp] theorem receiveFrom_clk (i : Nat) : (receiveFrom i s).clk = s.clk := rfl
@[simp] theorem receiveFrom_slv (i : Nat) : (receiveFrom i s).slv = s.slv := rfl
@[simp] theorem receiveFrom_array (i : Nat) : (receiveFrom i s).array = s.array := rfl
@[simp] theorem receiveFrom_outbuf (i : Nat) : (receiveFrom i s).outbuf = s.outbuf := rfl
@[simp] theorem receiveFrom_inbuf (i : Nat) : (receiveFrom i s).inbuf = s.inbuf := rfl
@[simp] theorem receiveFrom_phy (i : Nat) : (receiveFrom i s).phy = { s.phy with step := some (.receive (readPolicy i (readLen s.mst))), polls := 0 } := rfl
@[simp] theorem receiveFrom_hostData (i : Nat) : (receiveFrom i s).hostData = s.hostData := rfl
@[simp] theorem receiveFrom_draws (i : Nat) : (receiveFrom i s).draws = s.draws := rfl
@[simp] theorem receiveFrom_waitLimit (i : Nat) : (receiveFrom i s).waitLimit = s.waitLimit := rfl
@[simp] theorem receiveFrom_trace (i : Nat) : (receiveFrom i s).trace = .receiveByte (readPolicy i (readLen s.mst)) :: s.trace := rfl

/-! ### setFault -/

@[simp] theorem setFault_script (bit : BitVec 3) : (setFault bit s).script = s.script := rfl
@[simp] theorem setFault_opnd (bit : BitVec 3) : (setFault bit s).opnd = s.opnd := rfl
@[simp] theorem setFault_mst (bit : BitVec 3) : (setFault bit s).mst = s.mst := rfl
@[simp] theorem setFault_clk (bit : BitVec 3) : (setFault bit s).clk = s.clk := rfl
@[simp] theorem setFault_slv (bit : BitVec 3) : (setFault bit s).slv = { s.slv with sfault := s.slv.sfault ||| bit } := rfl
@[simp] theorem setFault_array (bit : BitVec 3) : (setFault bit s).array = s.array := rfl
@[simp] theorem setFault_outbuf (bit : BitVec 3) : (setFault bit s).outbuf = s.outbuf := rfl
@[simp] theorem setFault_inbuf (bit : BitVec 3) : (setFault bit s).inbuf = s.inbuf := rfl
@[simp] theorem setFault_phy (bit : BitVec 3) : (setFault bit s).phy = s.phy := rfl
@[simp] theorem setFault_hostData (bit : BitVec 3) : (setFault bit s).hostData = s.hostData := rfl
@[simp] theorem setFault_draws (bit : BitVec 3) : (setFault bit s).draws = s.draws := rfl
@[simp] theorem setFault_waitLimit (bit : BitVec 3) : (setFault bit s).waitLimit = s.waitLimit := rfl
@[simp] theorem setFault_trace (bit : BitVec 3) : (setFault bit s).trace = s.trace := rfl

/-! ### setCursor -/

@[simp] theorem setCursor_script (i : Byte) (ph : ReceivePhase) : (setCursor i ph s).script = s.script := rfl
@[simp] theorem setCursor_opnd (i : Byte) (ph : ReceivePhase) : (setCursor i ph s).opnd = s.opnd := rfl
@[simp] theorem setCursor_mst (i : Byte) (ph : ReceivePhase) : (setCursor i ph s).mst = s.mst := rfl
@[simp] theorem setCursor_clk (i : Byte) (ph : ReceivePhase) : (setCursor i ph s).clk = s.clk := rfl
@[simp] theorem setCursor_slv (i : Byte) (ph : ReceivePhase) : (setCursor i ph s).slv = { s.slv with index := i, sPhase := ph } := rfl
@[simp] theorem setCursor_array (i : Byte) (ph : ReceivePhase) : (setCursor i ph s).array = s.array := rfl
@[simp] theorem setCursor_outbuf (i : Byte) (ph : ReceivePhase) : (setCursor i ph s).outbuf = s.outbuf := rfl
@[simp] theorem setCursor_inbuf (i : Byte) (ph : ReceivePhase) : (setCursor i ph s).inbuf = s.inbuf := rfl
@[simp] theorem setCursor_phy (i : Byte) (ph : ReceivePhase) : (setCursor i ph s).phy = s.phy := rfl
@[simp] theorem setCursor_hostData (i : Byte) (ph : ReceivePhase) : (setCursor i ph s).hostData = s.hostData := rfl
@[simp] theorem setCursor_draws (i : Byte) (ph : ReceivePhase) : (setCursor i ph s).draws = s.draws := rfl
@[simp] theorem setCursor_waitLimit (i : Byte) (ph : ReceivePhase) : (setCursor i ph s).waitLimit = s.waitLimit := rfl
@[simp] theorem setCursor_trace (i : Byte) (ph : ReceivePhase) : (setCursor i ph s).trace = s.trace := rfl

/-! ### loadFree -/

@[simp] theorem loadFree_script : (loadFree s).script = s.script := rfl
@[simp] theorem loadFree_opnd : (loadFree s).opnd = s.opnd := rfl
@[simp] theorem loadFree_mst : (loadFree s).mst = s.mst := rfl
@[simp] theorem loadFree_clk : (loadFree s).clk = s.clk := rfl
@[simp] theorem loadFree_slv : (loadFree s).slv = { s.slv with txData := Config.freeByte s.draws } := rfl
@[simp] theorem loadFree_array : (loadFree s).array = s.array := rfl
@[simp] theorem loadFree_outbuf : (loadFree s).outbuf = s.outbuf := rfl
@[simp] theorem loadFree_inbuf : (loadFree s).inbuf = s.inbuf := rfl
@[simp] theorem loadFree_phy : (loadFree s).phy = s.phy := rfl
@[simp] theorem loadFree_hostData : (loadFree s).hostData = s.hostData := rfl
@[simp] theorem loadFree_draws : (loadFree s).draws = s.draws + 1 := rfl
@[simp] theorem loadFree_waitLimit : (loadFree s).waitLimit = s.waitLimit := rfl
@[simp] theorem loadFree_trace : (loadFree s).trace = s.trace := rfl

/-! ### writeEvtIe -/

@[simp] theorem writeEvtIe_script (b : Bool) : (writeEvtIe b s).script = s.script := rfl
@[simp] theorem writeEvtIe_opnd (b : Bool) : (writeEvtIe b s).opnd = s.opnd := rfl
@[simp] theorem writeEvtIe_mst (b : Bool) : (writeEvtIe b s).mst = s.mst := rfl
@[simp] theorem writeEvtIe_clk (b : Bool) : (writeEvtIe b s).clk = s.clk := rfl
@[simp] theorem writeEvtIe_slv (b : Bool) : (writeEvtIe b s).slv = { s.slv with evtIe := b } := rfl
@[simp] theorem writeEvtIe_array (b : Bool) : (writeEvtIe b s).array = s.array := rfl
@[simp] theorem writeEvtIe_outbuf (b : Bool) : (writeEvtIe b s).outbuf = s.outbuf := rfl
@[simp] theorem writeEvtIe_inbuf (b : Bool) : (writeEvtIe b s).inbuf = s.inbuf := rfl
@[simp] theorem writeEvtIe_phy (b : Bool) : (writeEvtIe b s).phy = s.phy := rfl
@[simp] theorem writeEvtIe_hostData (b : Bool) : (writeEvtIe b s).hostData = s.hostData := rfl
@[simp] theorem writeEvtIe_draws (b : Bool) : (writeEvtIe b s).draws = s.draws := rfl
@[simp] theorem writeEvtIe_waitLimit (b : Bool) : (writeEvtIe b s).waitLimit = s.waitLimit := rfl
@[simp] theorem writeEvtIe_trace (b : Bool) : (writeEvtIe b s).trace = s.trace := rfl

/-! ### latchBody -/

@[simp] theorem latchBody_script (op : BitVec 3) (f : Framing) : (latchBody op f s).script = s.script := rfl
@[simp] theorem latchBody_opnd (op : BitVec 3) (f : Framing) : (latchBody op f s).opnd = s.opnd := rfl
@[simp] theorem latchBody_mst (op : BitVec 3) (f : Framing) : (latchBody op f s).mst = { s.mst with
      mBusy := true, mOp := op, mAddr := if f.opens then s.opnd.aAddr else s.mst.mAddr
      mLen := s.opnd.aLen, mFraming := f, mCnt := 0#8 } := rfl
@[simp] theorem latchBody_clk (op : BitVec 3) (f : Framing) : (latchBody op f s).clk = s.clk := rfl
@[simp] theorem latchBody_slv (op : BitVec 3) (f : Framing) : (latchBody op f s).slv = s.slv := rfl
@[simp] theorem latchBody_array (op : BitVec 3) (f : Framing) : (latchBody op f s).array = s.array := rfl
@[simp] theorem latchBody_outbuf (op : BitVec 3) (f : Framing) : (latchBody op f s).outbuf = s.outbuf := rfl
@[simp] theorem latchBody_inbuf (op : BitVec 3) (f : Framing) : (latchBody op f s).inbuf = s.inbuf := rfl
@[simp] theorem latchBody_phy (op : BitVec 3) (f : Framing) : (latchBody op f s).phy = s.phy := rfl
@[simp] theorem latchBody_hostData (op : BitVec 3) (f : Framing) : (latchBody op f s).hostData = s.hostData := rfl
@[simp] theorem latchBody_draws (op : BitVec 3) (f : Framing) : (latchBody op f s).draws = s.draws := rfl
@[simp] theorem latchBody_waitLimit (op : BitVec 3) (f : Framing) : (latchBody op f s).waitLimit = s.waitLimit := rfl
@[simp] theorem latchBody_trace (op : BitVec 3) (f : Framing) : (latchBody op f s).trace = s.trace := rfl

/-! ### latchTransfer -/

@[simp] theorem latchTransfer_script : (latchTransfer s).script = s.script := rfl
@[simp] theorem latchTransfer_opnd : (latchTransfer s).opnd = s.opnd := rfl
@[simp] theorem latchTransfer_mst : (latchTransfer s).mst = { s.mst with
      mBusy := true, mOp := opMTransfer, mAddr := s.opnd.aAddr, mLen := s.opnd.aLen, mIlen := s.opnd.aIlen
      mRan := false, mXph := false } := rfl
@[simp] theorem latchTransfer_clk : (latchTransfer s).clk = s.clk := rfl
@[simp] theorem latchTransfer_slv : (latchTransfer s).slv = s.slv := rfl
@[simp] theorem latchTransfer_array : (latchTransfer s).array = s.array := rfl
@[simp] theorem latchTransfer_outbuf : (latchTransfer s).outbuf = s.outbuf := rfl
@[simp] theorem latchTransfer_inbuf : (latchTransfer s).inbuf = s.inbuf := rfl
@[simp] theorem latchTransfer_phy : (latchTransfer s).phy = s.phy := rfl
@[simp] theorem latchTransfer_hostData : (latchTransfer s).hostData = s.hostData := rfl
@[simp] theorem latchTransfer_draws : (latchTransfer s).draws = s.draws := rfl
@[simp] theorem latchTransfer_waitLimit : (latchTransfer s).waitLimit = s.waitLimit := rfl
@[simp] theorem latchTransfer_trace : (latchTransfer s).trace = s.trace := rfl

/-! ### Updates that depend on a condition: the fields no branch writes -/


/-! #### closeIf -/

@[simp] theorem closeIf_script (b : Bool) : (closeIf b s).script = s.script := by
  unfold closeIf; split <;> rfl
@[simp] theorem closeIf_opnd (b : Bool) : (closeIf b s).opnd = s.opnd := by
  unfold closeIf; split <;> rfl
@[simp] theorem closeIf_mst (b : Bool) : (closeIf b s).mst = s.mst := by
  unfold closeIf; split <;> rfl
@[simp] theorem closeIf_clk (b : Bool) : (closeIf b s).clk = s.clk := by
  unfold closeIf; split <;> rfl
@[simp] theorem closeIf_slv (b : Bool) : (closeIf b s).slv = s.slv := by
  unfold closeIf; split <;> rfl
@[simp] theorem closeIf_array (b : Bool) : (closeIf b s).array = s.array := by
  unfold closeIf; split <;> rfl
@[simp] theorem closeIf_outbuf (b : Bool) : (closeIf b s).outbuf = s.outbuf := by
  unfold closeIf; split <;> rfl
@[simp] theorem closeIf_inbuf (b : Bool) : (closeIf b s).inbuf = s.inbuf := by
  unfold closeIf; split <;> rfl
@[simp] theorem closeIf_phy (b : Bool) : (closeIf b s).phy = s.phy := by
  unfold closeIf; split <;> rfl
@[simp] theorem closeIf_hostData (b : Bool) : (closeIf b s).hostData = s.hostData := by
  unfold closeIf; split <;> rfl
@[simp] theorem closeIf_draws (b : Bool) : (closeIf b s).draws = s.draws := by
  unfold closeIf; split <;> rfl
@[simp] theorem closeIf_waitLimit (b : Bool) : (closeIf b s).waitLimit = s.waitLimit := by
  unfold closeIf; split <;> rfl

/-! #### arrayStore -/

@[simp] theorem arrayStore_script (i v : Byte) : (arrayStore i v s).script = s.script := by
  unfold arrayStore; split <;> rfl
@[simp] theorem arrayStore_opnd (i v : Byte) : (arrayStore i v s).opnd = s.opnd := by
  unfold arrayStore; split <;> rfl
@[simp] theorem arrayStore_mst (i v : Byte) : (arrayStore i v s).mst = s.mst := by
  unfold arrayStore; split <;> rfl
@[simp] theorem arrayStore_clk (i v : Byte) : (arrayStore i v s).clk = s.clk := by
  unfold arrayStore; split <;> rfl
@[simp] theorem arrayStore_outbuf (i v : Byte) : (arrayStore i v s).outbuf = s.outbuf := by
  unfold arrayStore; split <;> rfl
@[simp] theorem arrayStore_inbuf (i v : Byte) : (arrayStore i v s).inbuf = s.inbuf := by
  unfold arrayStore; split <;> rfl
@[simp] theorem arrayStore_phy (i v : Byte) : (arrayStore i v s).phy = s.phy := by
  unfold arrayStore; split <;> rfl
@[simp] theorem arrayStore_hostData (i v : Byte) : (arrayStore i v s).hostData = s.hostData := by
  unfold arrayStore; split <;> rfl
@[simp] theorem arrayStore_draws (i v : Byte) : (arrayStore i v s).draws = s.draws := by
  unfold arrayStore; split <;> rfl
@[simp] theorem arrayStore_waitLimit (i v : Byte) : (arrayStore i v s).waitLimit = s.waitLimit := by
  unfold arrayStore; split <;> rfl
@[simp] theorem arrayStore_trace (i v : Byte) : (arrayStore i v s).trace = s.trace := by
  unfold arrayStore; split <;> rfl

/-! #### loadTx -/

@[simp] theorem loadTx_script (i : Byte) : (loadTx i s).script = s.script := by
  unfold loadTx; split <;> [split; skip] <;> rfl
@[simp] theorem loadTx_opnd (i : Byte) : (loadTx i s).opnd = s.opnd := by
  unfold loadTx; split <;> [split; skip] <;> rfl
@[simp] theorem loadTx_mst (i : Byte) : (loadTx i s).mst = s.mst := by
  unfold loadTx; split <;> [split; skip] <;> rfl
@[simp] theorem loadTx_clk (i : Byte) : (loadTx i s).clk = s.clk := by
  unfold loadTx; split <;> [split; skip] <;> rfl
@[simp] theorem loadTx_array (i : Byte) : (loadTx i s).array = s.array := by
  unfold loadTx; split <;> [split; skip] <;> rfl
@[simp] theorem loadTx_outbuf (i : Byte) : (loadTx i s).outbuf = s.outbuf := by
  unfold loadTx; split <;> [split; skip] <;> rfl
@[simp] theorem loadTx_inbuf (i : Byte) : (loadTx i s).inbuf = s.inbuf := by
  unfold loadTx; split <;> [split; skip] <;> rfl
@[simp] theorem loadTx_phy (i : Byte) : (loadTx i s).phy = s.phy := by
  unfold loadTx; split <;> [split; skip] <;> rfl
@[simp] theorem loadTx_hostData (i : Byte) : (loadTx i s).hostData = s.hostData := by
  unfold loadTx; split <;> [split; skip] <;> rfl
@[simp] theorem loadTx_waitLimit (i : Byte) : (loadTx i s).waitLimit = s.waitLimit := by
  unfold loadTx; split <;> [split; skip] <;> rfl
@[simp] theorem loadTx_trace (i : Byte) : (loadTx i s).trace = s.trace := by
  unfold loadTx; split <;> [split; skip] <;> rfl

/-! #### finishTransfer -/

@[simp] theorem finishTransfer_script : (finishTransfer s).script = s.script := by
  simp [finishTransfer]
@[simp] theorem finishTransfer_opnd : (finishTransfer s).opnd = s.opnd := by
  simp [finishTransfer]
@[simp] theorem finishTransfer_clk : (finishTransfer s).clk = s.clk := by
  simp [finishTransfer]
@[simp] theorem finishTransfer_slv : (finishTransfer s).slv = s.slv := by
  simp [finishTransfer]
@[simp] theorem finishTransfer_array : (finishTransfer s).array = s.array := by
  simp [finishTransfer]
@[simp] theorem finishTransfer_outbuf : (finishTransfer s).outbuf = s.outbuf := by
  simp [finishTransfer]
@[simp] theorem finishTransfer_inbuf : (finishTransfer s).inbuf = s.inbuf := by
  simp [finishTransfer]
@[simp] theorem finishTransfer_phy : (finishTransfer s).phy = s.phy := by
  simp [finishTransfer]
@[simp] theorem finishTransfer_hostData : (finishTransfer s).hostData = s.hostData := by
  simp [finishTransfer]
@[simp] theorem finishTransfer_draws : (finishTransfer s).draws = s.draws := by
  simp [finishTransfer]
@[simp] theorem finishTransfer_waitLimit : (finishTransfer s).waitLimit = s.waitLimit := by
  simp [finishTransfer]

/-! #### readPhase -/

@[simp] theorem readPhase_script : (readPhase s).script = s.script := by
  unfold readPhase; split <;> simp
@[simp] theorem readPhase_opnd : (readPhase s).opnd = s.opnd := by
  unfold readPhase; split <;> simp
@[simp] theorem readPhase_clk : (readPhase s).clk = s.clk := by
  unfold readPhase; split <;> simp
@[simp] theorem readPhase_slv : (readPhase s).slv = s.slv := by
  unfold readPhase; split <;> simp
@[simp] theorem readPhase_array : (readPhase s).array = s.array := by
  unfold readPhase; split <;> simp
@[simp] theorem readPhase_outbuf : (readPhase s).outbuf = s.outbuf := by
  unfold readPhase; split <;> simp
@[simp] theorem readPhase_inbuf : (readPhase s).inbuf = s.inbuf := by
  unfold readPhase; split <;> simp
@[simp] theorem readPhase_hostData : (readPhase s).hostData = s.hostData := by
  unfold readPhase; split <;> simp
@[simp] theorem readPhase_draws : (readPhase s).draws = s.draws := by
  unfold readPhase; split <;> simp
@[simp] theorem readPhase_waitLimit : (readPhase s).waitLimit = s.waitLimit := by
  unfold readPhase; split <;> simp

/-! #### writeDone -/

@[simp] theorem writeDone_script : (writeDone s).script = s.script := by
  unfold writeDone; split <;> simp
@[simp] theorem writeDone_opnd : (writeDone s).opnd = s.opnd := by
  unfold writeDone; split <;> simp
@[simp] theorem writeDone_clk : (writeDone s).clk = s.clk := by
  unfold writeDone; split <;> simp
@[simp] theorem writeDone_slv : (writeDone s).slv = s.slv := by
  unfold writeDone; split <;> simp
@[simp] theorem writeDone_array : (writeDone s).array = s.array := by
  unfold writeDone; split <;> simp
@[simp] theorem writeDone_outbuf : (writeDone s).outbuf = s.outbuf := by
  unfold writeDone; split <;> simp
@[simp] theorem writeDone_inbuf : (writeDone s).inbuf = s.inbuf := by
  unfold writeDone; split <;> simp
@[simp] theorem writeDone_hostData : (writeDone s).hostData = s.hostData := by
  unfold writeDone; split <;> simp
@[simp] theorem writeDone_draws : (writeDone s).draws = s.draws := by
  unfold writeDone; split <;> simp
@[simp] theorem writeDone_waitLimit : (writeDone s).waitLimit = s.waitLimit := by
  unfold writeDone; split <;> simp

/-! #### readDone -/

@[simp] theorem readDone_script : (readDone s).script = s.script := by
  unfold readDone; split <;> simp
@[simp] theorem readDone_opnd : (readDone s).opnd = s.opnd := by
  unfold readDone; split <;> simp
@[simp] theorem readDone_clk : (readDone s).clk = s.clk := by
  unfold readDone; split <;> simp
@[simp] theorem readDone_slv : (readDone s).slv = s.slv := by
  unfold readDone; split <;> simp
@[simp] theorem readDone_array : (readDone s).array = s.array := by
  unfold readDone; split <;> simp
@[simp] theorem readDone_outbuf : (readDone s).outbuf = s.outbuf := by
  unfold readDone; split <;> simp
@[simp] theorem readDone_inbuf : (readDone s).inbuf = s.inbuf := by
  unfold readDone; split <;> simp
@[simp] theorem readDone_phy : (readDone s).phy = s.phy := by
  unfold readDone; split <;> simp
@[simp] theorem readDone_hostData : (readDone s).hostData = s.hostData := by
  unfold readDone; split <;> simp
@[simp] theorem readDone_draws : (readDone s).draws = s.draws := by
  unfold readDone; split <;> simp
@[simp] theorem readDone_waitLimit : (readDone s).waitLimit = s.waitLimit := by
  unfold readDone; split <;> simp

/-! #### startCompleted -/

@[simp] theorem startCompleted_script (code : Byte) : (startCompleted code s).script = s.script := by
  unfold startCompleted; split <;> simp
@[simp] theorem startCompleted_opnd (code : Byte) : (startCompleted code s).opnd = s.opnd := by
  unfold startCompleted; split <;> simp
@[simp] theorem startCompleted_clk (code : Byte) : (startCompleted code s).clk = s.clk := by
  unfold startCompleted; split <;> simp
@[simp] theorem startCompleted_slv (code : Byte) : (startCompleted code s).slv = s.slv := by
  unfold startCompleted; split <;> simp
@[simp] theorem startCompleted_array (code : Byte) : (startCompleted code s).array = s.array := by
  unfold startCompleted; split <;> simp
@[simp] theorem startCompleted_outbuf (code : Byte) : (startCompleted code s).outbuf = s.outbuf := by
  unfold startCompleted; split <;> simp
@[simp] theorem startCompleted_inbuf (code : Byte) : (startCompleted code s).inbuf = s.inbuf := by
  unfold startCompleted; split <;> simp
@[simp] theorem startCompleted_hostData (code : Byte) : (startCompleted code s).hostData = s.hostData := by
  unfold startCompleted; split <;> simp
@[simp] theorem startCompleted_draws (code : Byte) : (startCompleted code s).draws = s.draws := by
  unfold startCompleted; split <;> simp
@[simp] theorem startCompleted_waitLimit (code : Byte) : (startCompleted code s).waitLimit = s.waitLimit := by
  unfold startCompleted; split <;> simp

/-! #### receiveCompleted -/

@[simp] theorem receiveCompleted_script (rx : Byte) : (receiveCompleted rx s).script = s.script := by
  unfold receiveCompleted; dsimp only; split <;> simp
@[simp] theorem receiveCompleted_opnd (rx : Byte) : (receiveCompleted rx s).opnd = s.opnd := by
  unfold receiveCompleted; dsimp only; split <;> simp
@[simp] theorem receiveCompleted_clk (rx : Byte) : (receiveCompleted rx s).clk = s.clk := by
  unfold receiveCompleted; dsimp only; split <;> simp
@[simp] theorem receiveCompleted_slv (rx : Byte) : (receiveCompleted rx s).slv = s.slv := by
  unfold receiveCompleted; dsimp only; split <;> simp
@[simp] theorem receiveCompleted_array (rx : Byte) : (receiveCompleted rx s).array = s.array := by
  unfold receiveCompleted; dsimp only; split <;> simp
@[simp] theorem receiveCompleted_outbuf (rx : Byte) : (receiveCompleted rx s).outbuf = s.outbuf := by
  unfold receiveCompleted; dsimp only; split <;> simp
@[simp] theorem receiveCompleted_hostData (rx : Byte) : (receiveCompleted rx s).hostData = s.hostData := by
  unfold receiveCompleted; dsimp only; split <;> simp
@[simp] theorem receiveCompleted_draws (rx : Byte) : (receiveCompleted rx s).draws = s.draws := by
  unfold receiveCompleted; dsimp only; split <;> simp
@[simp] theorem receiveCompleted_waitLimit (rx : Byte) : (receiveCompleted rx s).waitLimit = s.waitLimit := by
  unfold receiveCompleted; dsimp only; split <;> simp

/-! #### recordAnswer -/

@[simp] theorem recordAnswer_script (b : BusStep) (code rx : Byte) : (recordAnswer b code rx s).script = s.script := rfl
@[simp] theorem recordAnswer_opnd (b : BusStep) (code rx : Byte) : (recordAnswer b code rx s).opnd = s.opnd := rfl
@[simp] theorem recordAnswer_mst (b : BusStep) (code rx : Byte) : (recordAnswer b code rx s).mst = s.mst := rfl
@[simp] theorem recordAnswer_clk (b : BusStep) (code rx : Byte) : (recordAnswer b code rx s).clk = s.clk := rfl
@[simp] theorem recordAnswer_slv (b : BusStep) (code rx : Byte) : (recordAnswer b code rx s).slv = s.slv := rfl
@[simp] theorem recordAnswer_array (b : BusStep) (code rx : Byte) : (recordAnswer b code rx s).array = s.array := rfl
@[simp] theorem recordAnswer_outbuf (b : BusStep) (code rx : Byte) : (recordAnswer b code rx s).outbuf = s.outbuf := rfl
@[simp] theorem recordAnswer_inbuf (b : BusStep) (code rx : Byte) : (recordAnswer b code rx s).inbuf = s.inbuf := rfl
@[simp] theorem recordAnswer_hostData (b : BusStep) (code rx : Byte) : (recordAnswer b code rx s).hostData = s.hostData := rfl
@[simp] theorem recordAnswer_draws (b : BusStep) (code rx : Byte) : (recordAnswer b code rx s).draws = s.draws := rfl
@[simp] theorem recordAnswer_waitLimit (b : BusStep) (code rx : Byte) : (recordAnswer b code rx s).waitLimit = s.waitLimit := rfl
@[simp] theorem recordAnswer_trace (b : BusStep) (code rx : Byte) : (recordAnswer b code rx s).trace = s.trace := rfl

/-! #### poll -/

@[simp] theorem poll_script : (poll s).script = s.script := by
  unfold poll; split <;> [skip; split <;> [skip; split]] <;> simp
@[simp] theorem poll_opnd : (poll s).opnd = s.opnd := by
  unfold poll; split <;> [skip; split <;> [skip; split]] <;> simp
@[simp] theorem poll_clk : (poll s).clk = s.clk := by
  unfold poll; split <;> [skip; split <;> [skip; split]] <;> simp
@[simp] theorem poll_slv : (poll s).slv = s.slv := by
  unfold poll; split <;> [skip; split <;> [skip; split]] <;> simp
@[simp] theorem poll_array : (poll s).array = s.array := by
  unfold poll; split <;> [skip; split <;> [skip; split]] <;> simp
@[simp] theorem poll_outbuf : (poll s).outbuf = s.outbuf := by
  unfold poll; split <;> [skip; split <;> [skip; split]] <;> simp
@[simp] theorem poll_inbuf : (poll s).inbuf = s.inbuf := by
  unfold poll; split <;> [skip; split <;> [skip; split]] <;> simp
@[simp] theorem poll_hostData : (poll s).hostData = s.hostData := by
  unfold poll; split <;> [skip; split <;> [skip; split]] <;> simp
@[simp] theorem poll_draws : (poll s).draws = s.draws := by
  unfold poll; split <;> [skip; split <;> [skip; split]] <;> simp
@[simp] theorem poll_waitLimit : (poll s).waitLimit = s.waitLimit := by
  unfold poll; split <;> [skip; split <;> [skip; split]] <;> simp

theorem closeIf_trace (b : Bool) : (closeIf b s).trace = if b then .issueStop :: s.trace else s.trace := by
  cases b <;> rfl

end Sys2Proof.Machine
end

