-- ==== Sys2Proof/Laws/Ops.lean ====
section
/-! SUPPORT. For each shared operation and check, once, everything it can do. -/

namespace Sys2Proof.Machine

/-! ### The record of a fault (R236) -/

theorem NoFaultRecorded.strict {s : State} (h : NoFaultRecorded s) : NoStrictFaultRecorded s := by
  simp only [NoFaultRecorded] at h
  simp [NoStrictFaultRecorded, h]

/-- Bits already set stay set. -/
theorem setFault_getLsbD (bit : BitVec 3) (s : State) (k : Nat) :
    (setFault bit s).slv.sfault.getLsbD k = (s.slv.sfault.getLsbD k || bit.getLsbD k) := by
  simp

/-- A fault in the strict sense is recorded by the out-of-range store and load, and by nothing else the engine records. -/
theorem setFault_noStrict (bit : BitVec 3) (s : State) :
    NoStrictFaultRecorded (setFault bit s) ↔
      NoStrictFaultRecorded s ∧ bit.getLsbD 0 = false ∧ bit.getLsbD 1 = false := by
  simp only [NoStrictFaultRecorded, setFault_getLsbD, Bool.or_eq_false_iff]
  tauto

/-! ### The outcome of a check -/

/-- A guarded meaning answers next exactly when its check passes and its effect answers next. -/
theorem guarded_next {c : Option Refusal} {o : Outcome} {t : State} :
    guarded c o = .next t ↔ c = none ∧ o = .next t := by
  cases c <;> simp [guarded]

@[simp] theorem guarded_none (o : Outcome) : guarded none o = o := rfl

@[simp] theorem guarded_some (r : Refusal) (o : Outcome) : guarded (some r) o = .refused r := rfl

theorem foregroundWaits_eq_false {s : State} : foregroundWaits s = false ↔ ForegroundReady s := by
  simp [foregroundWaits, ForegroundReady]

theorem foregroundCheck_none {s : State} : foregroundCheck s = none ↔ ForegroundReady s := by
  simp [foregroundCheck, ← foregroundWaits_eq_false]

/-- R170: a master command passes its check exactly when the foreground can step, the block is configured, the slave role is
off and its operand registers are written. -/
theorem masterCheck_none {b : Bool} {s : State} : masterCheck b s = none ↔ MasterReady s ∧ b = true := by
  unfold masterCheck MasterReady
  rw [← foregroundWaits_eq_false]
  split_ifs <;> simp_all

/-- R71: a primitive issued by itself passes exactly while no master command runs. -/
theorem standAloneCheck_none {s : State} : standAloneCheck s = none ↔ s.mst.mState = .idle := by
  simp [standAloneCheck]

/-- R71: a master-side one passes exactly when the foreground could step. -/
theorem primitiveCheck_none {s : State} : primitiveCheck s = none ↔ ForegroundReady s := by
  unfold primitiveCheck ForegroundReady
  cases s.phy.step <;> split_ifs <;> simp_all

theorem standAloneCheck_running {s : State} (h : s.mst.mState ≠ .idle) : standAloneCheck s = some .commandRunning := by
  simp [standAloneCheck, h]

theorem primitiveCheck_running {s : State} (h : s.mst.mState ≠ .idle) : primitiveCheck s = some .commandRunning := by
  simp [primitiveCheck, h]

/-- R180, R181: a row is delivered exactly when the three enables are 1 and the latch selects it. -/
theorem handlerCheck_none {row : Instr} {s : State} :
    handlerCheck row s = none ↔
      s.slv.sEn = true ∧ s.slv.evtIe = true ∧ s.slv.evtPending = true ∧
        decodeEvt s.slv.evtStatus s.slv.sPhase = row := by
  unfold handlerCheck deliverable
  split_ifs with h1 h2
  · simp only [Bool.not_eq_true', Bool.and_eq_false_iff] at h1
    simp only [false_iff]
    rintro ⟨a, b, c, -⟩
    simp [a, b, c] at h1
  · simp_all
  · simp_all

/-! ### The slave engine's accesses -/

/-- R64: the store writes its cell when the offset is in range, else it sets `OOB_ST` and writes no cell. -/
theorem arrayStore_cases (i v : Byte) (s : State) :
    (i.toNat < s.slv.cap.toNat ∧ arrayStore i v s = { s with array := s.array.write i.toNat v }) ∨
      (s.slv.cap.toNat ≤ i.toNat ∧ arrayStore i v s = setFault oobSt s) := by
  unfold arrayStore inRange
  split_ifs with h <;> simp_all

/-- R65, R266: the load takes the cell, or a free byte from a cell nothing has written, or a free byte and `OOB_LD`. -/
theorem loadTx_cases (i : Byte) (s : State) :
    (∃ b, i.toNat < s.slv.cap.toNat ∧ s.array.read i.toNat = some b ∧
        loadTx i s = { s with slv := { s.slv with txData := b } }) ∨
      (i.toNat < s.slv.cap.toNat ∧ s.array.read i.toNat = none ∧ loadTx i s = loadFree s) ∨
      (s.slv.cap.toNat ≤ i.toNat ∧ loadTx i s = loadFree (setFault oobLd s)) := by
  unfold loadTx inRange
  split_ifs with h
  · cases hr : s.array.read i.toNat <;> simp_all
  · simp_all

/-- R181: every row of the handler is one of nine effects, under the one delivery check. -/
theorem exec_isRow {i : Instr} (h : isRow i = true) :
    ∃ f : State → State, (∀ s, exec i s = guarded (handlerCheck i s) (.next (f s))) ∧
      (f = rowAddressMatched ∨ f = rowTakeIndex ∨ f = rowStore ∨ f = rowStoreLast ∨ f = rowNoCell ∨ f = rowLoad ∨
        f = rowEndRead ∨ f = rowStop ∨ f = rowRecover) := by
  cases i <;> simp [isRow] at h <;> exact ⟨_, fun _ => rfl, by simp⟩

/-! ### The status tests (R97, R98, R169) -/

theorem startConfirmed_iff {c : Byte} : startConfirmed c = true ↔ c = 0x08#8 ∨ c = 0x10#8 := by revert c; decide

theorem addressAcked_iff {d : Direction} {c : Byte} :
    addressAcked d c = true ↔ c = (match d with | .write => 0x18#8 | .read => 0x40#8) := by
  cases d <;> revert c <;> decide

theorem dataAcked_iff {c : Byte} : dataAcked c = true ↔ c = 0x28#8 := by revert c; decide

/-! ### The sequencer -/

/-- R157: a write body from offset `i` sends the byte there, faults on a cell nothing has written, or has ended. -/
theorem sendFrom_cases (i : Nat) (s : State) :
    (∃ b, i < s.mst.mLen.toNat ∧ s.outbuf.read i = some b ∧
        sendFrom i s = .next { transmitByte b s with
          mst := { (transmitByte b s).mst with mCnt := BitVec.ofNat 8 i, mState := .txWait } }) ∨
      (i < s.mst.mLen.toNat ∧ s.outbuf.read i = none ∧
        sendFrom i s = .fault (.unwrittenCell .outbuf (BitVec.ofNat 8 i))) ∨
      (s.mst.mLen.toNat ≤ i ∧ sendFrom i s = .next (writeDone s)) := by
  unfold sendFrom
  split_ifs with h
  · cases hr : s.outbuf.read i <;> simp_all
  · simp_all

/-- R126, R167: an answer completes the outstanding step, and what follows depends on `M_STATE` alone. -/
theorem completeStep_next {code rx : Byte} {s t : State} (h : completeStep code rx s = .next t) :
    ∃ b, s.phy.step = some b ∧
      ((s.mst.mState = .idle ∧ t = recordAnswer b code rx s) ∨
        (s.mst.mState = .startWait ∧ t = startCompleted code (recordAnswer b code rx s)) ∨
        (s.mst.mState = .addrWait ∧ addressCompleted code (recordAnswer b code rx s) = .next t) ∨
        (s.mst.mState = .txWait ∧ sendCompleted code (recordAnswer b code rx s) = .next t) ∨
        (s.mst.mState = .rxWait ∧ t = receiveCompleted rx (recordAnswer b code rx s))) := by
  unfold completeStep at h
  cases hs : s.phy.step with
  | none => simp [hs] at h
  | some b =>
    refine ⟨b, rfl, ?_⟩
    cases hm : s.mst.mState <;> simp_all [eq_comm]

/-- Each of the twenty answers is the shared completion with its own status byte. -/
theorem exec_statusRow {i : Instr} {code rx : Byte} (h : statusRow i = some (code, rx)) (s : State) :
    exec i s = completeStep code rx s := by
  cases i <;> simp_all [statusRow] <;> (obtain ⟨rfl, rfl⟩ := h; rfl)

/-- R126, R234: a turn nobody takes changes nothing, but for a bounded wait, which it counts or ends. -/
theorem poll_cases (s : State) :
    poll s = s ∨
      (s.mst.mState ≠ .idle ∧ (∃ n, s.waitLimit = some n ∧ n ≤ s.phy.polls + 1) ∧
        poll s = raiseFailure .timeout { s with phy := { s.phy with step := none, polls := 0 } }) ∨
      (s.mst.mState ≠ .idle ∧ (∃ n, s.waitLimit = some n ∧ s.phy.polls + 1 < n) ∧
        poll s = { s with phy := { s.phy with polls := s.phy.polls + 1 } }) := by
  unfold poll
  split
  · exact .inl rfl
  · split_ifs with h1 h2
    · exact .inl rfl
    · exact .inr (.inl ⟨h1, ⟨_, ‹_›, h2⟩, rfl⟩)
    · exact .inr (.inr ⟨h1, ⟨_, ‹_›, by omega⟩, rfl⟩)

/-- The three ways a step answers: nothing happened, the turn's word was an instruction, or the word was none. -/
theorem step_next {s t : State} (h : step s = .next t) :
    (s.script = [] ∧ t = poll s) ∨
      (∃ rest, s.script = .idle :: rest ∧ t = poll { s with script := rest }) ∨
      ∃ turn rest w i, s.script = turn :: rest ∧ turnWord turn s = some w ∧ decode s.slv.sPhase w = .ok i ∧
        exec i { s with script := rest } = .next t := by
  unfold step at h
  split at h
  · next hs => exact .inl ⟨hs, by simpa using h.symm⟩
  · next turn rest hs =>
    split at h
    · next hw =>
      cases turn with
      | idle => exact .inr (.inl ⟨rest, hs, by simpa using h.symm⟩)
      | word w => simp [turnWord] at hw
      | deliver => simp [turnWord] at hw
    · next w hw =>
      split at h
      · next i hd => exact .inr (.inr ⟨turn, rest, w, i, hs, hw, hd, h⟩)
      · simp at h

end Sys2Proof.Machine
end

