-- ==== Sys2Proof/Laws/PerInstr.lean ====
section
/-! SUPPORT. The family PortFits, one lemma per constructor: the word of a well-formed instruction fits the port it goes to. -/

namespace Sys2Proof.Laws.PortFits

/-- The encoding has no bit above its port's width and no operand bit above the operands its port has (R103, R97, R110). -/
def Statement (i : Instr) : Prop :=
  i.wf = true →
    (encode i).word.toNat < 2 ^ (encode i).port.width ∧ (encode i).arg.toNat < 2 ^ (encode i).port.argWidth

theorem of_byte (p : Port) (b : Byte) (a : BitVec 16) (hp : 8 ≤ p.width) (ha : a.toNat < 2 ^ p.argWidth) :
    (⟨p, b.setWidth 32, a⟩ : InWord).word.toNat < 2 ^ p.width ∧ a.toNat < 2 ^ p.argWidth := by
  refine ⟨?_, ha⟩
  have h := b.isLt
  have h2 : 2 ^ 8 ≤ 2 ^ p.width := Nat.pow_le_pow_right (by omega) hp
  simp only [BitVec.toNat_setWidth]
  omega

theorem of_cmd (b : Byte) :
    (encodeCmd b).word.toNat < 2 ^ (encodeCmd b).port.width ∧ (encodeCmd b).arg.toNat < 2 ^ (encodeCmd b).port.argWidth :=
  of_byte .cmd b 0#16 (by decide) (by decide)

theorem of_status (code rx : Byte) :
    (encodeStatus code rx).word.toNat < 2 ^ (encodeStatus code rx).port.width ∧
      (encodeStatus code rx).arg.toNat < 2 ^ (encodeStatus code rx).port.argWidth :=
  of_byte .status code (rx.setWidth 16) (by decide) (by
    have h := rx.isLt
    simp only [BitVec.toNat_setWidth, Port.argWidth]
    omega)

theorem of_evt (code : Byte) :
    (encodeEvt code).word.toNat < 2 ^ (encodeEvt code).port.width ∧
      (encodeEvt code).arg.toNat < 2 ^ (encodeEvt code).port.argWidth :=
  of_byte .evt code 0#16 (by decide) (by decide)

theorem of_hpi (hop : BitVec 4) (harg : Byte) :
    (encodeHpi hop harg).word.toNat < 2 ^ (encodeHpi hop harg).port.width ∧
      (encodeHpi hop harg).arg.toNat < 2 ^ (encodeHpi hop harg).port.argWidth := by
  refine ⟨?_, (by decide : (0 : Nat) < 2 ^ 0)⟩
  have h := (hop ++ harg).isLt
  simp only [encodeHpi, BitVec.toNat_setWidth, Port.width]
  omega

theorem configure : Statement .configure := fun _ => of_cmd _
theorem mStart (d : Direction) : Statement (.mStart d) := fun _ => of_cmd _
theorem mStop : Statement .mStop := fun _ => of_cmd _
theorem mWrite (f : Framing) : Statement (.mWrite f) := fun _ => of_cmd _
theorem mRead (f : Framing) : Statement (.mRead f) := fun _ => of_cmd _
theorem mTransfer : Statement .mTransfer := fun _ => of_cmd _
theorem sStart : Statement .sStart := fun _ => of_cmd _
theorem sStop : Statement .sStop := fun _ => of_cmd _
theorem cmdReserved (b : Byte) : Statement (.cmdReserved b) := fun _ => of_cmd _
theorem statusStBusError (rx : Byte) : Statement (.statusStBusError rx) := fun _ => of_status _ _
theorem statusStStart (rx : Byte) : Statement (.statusStStart rx) := fun _ => of_status _ _
theorem statusStRepStart (rx : Byte) : Statement (.statusStRepStart rx) := fun _ => of_status _ _
theorem statusStMtSlaAck (rx : Byte) : Statement (.statusStMtSlaAck rx) := fun _ => of_status _ _
theorem statusStMtSlaNack (rx : Byte) : Statement (.statusStMtSlaNack rx) := fun _ => of_status _ _
theorem statusStMtDataAck (rx : Byte) : Statement (.statusStMtDataAck rx) := fun _ => of_status _ _
theorem statusStMtDataNack (rx : Byte) : Statement (.statusStMtDataNack rx) := fun _ => of_status _ _
theorem statusStMrSlaAck (rx : Byte) : Statement (.statusStMrSlaAck rx) := fun _ => of_status _ _
theorem statusStMrSlaNack (rx : Byte) : Statement (.statusStMrSlaNack rx) := fun _ => of_status _ _
theorem statusStMrDataAck (rx : Byte) : Statement (.statusStMrDataAck rx) := fun _ => of_status _ _
theorem statusStMrDataNack (rx : Byte) : Statement (.statusStMrDataNack rx) := fun _ => of_status _ _
theorem statusStSrSlaAck (rx : Byte) : Statement (.statusStSrSlaAck rx) := fun _ => of_status _ _
theorem statusStSrDataAck (rx : Byte) : Statement (.statusStSrDataAck rx) := fun _ => of_status _ _
theorem statusStSrDataNack (rx : Byte) : Statement (.statusStSrDataNack rx) := fun _ => of_status _ _
theorem statusStSrStop (rx : Byte) : Statement (.statusStSrStop rx) := fun _ => of_status _ _
theorem statusStStSlaAck (rx : Byte) : Statement (.statusStStSlaAck rx) := fun _ => of_status _ _
theorem statusStStDataAck (rx : Byte) : Statement (.statusStStDataAck rx) := fun _ => of_status _ _
theorem statusStStDataNack (rx : Byte) : Statement (.statusStStDataNack rx) := fun _ => of_status _ _
theorem statusStStLastData (rx : Byte) : Statement (.statusStStLastData rx) := fun _ => of_status _ _
theorem statusUnknown (code : Byte) (rx : Byte) : Statement (.statusUnknown code rx) := fun _ => of_status _ _
theorem evtStSrSlaAck : Statement .evtStSrSlaAck := fun _ => of_evt _
theorem evtStSrDataAckAwaitingIndex : Statement .evtStSrDataAckAwaitingIndex := fun _ => of_evt _
theorem evtStSrDataAckReceivingData : Statement .evtStSrDataAckReceivingData := fun _ => of_evt _
theorem evtStSrDataNackReceivingData : Statement .evtStSrDataNackReceivingData := fun _ => of_evt _
theorem evtStSrDataNackAwaitingIndex : Statement .evtStSrDataNackAwaitingIndex := fun _ => of_evt _
theorem evtStStSlaAck : Statement .evtStStSlaAck := fun _ => of_evt _
theorem evtStStDataAck : Statement .evtStStDataAck := fun _ => of_evt _
theorem evtStStDataNack : Statement .evtStStDataNack := fun _ => of_evt _
theorem evtStStLastData : Statement .evtStStLastData := fun _ => of_evt _
theorem evtStSrStop : Statement .evtStSrStop := fun _ => of_evt _
theorem evtStBusError : Statement .evtStBusError := fun _ => of_evt _
theorem evtStStart : Statement .evtStStart := fun _ => of_evt _
theorem evtStRepStart : Statement .evtStRepStart := fun _ => of_evt _
theorem evtStMtSlaAck : Statement .evtStMtSlaAck := fun _ => of_evt _
theorem evtStMtSlaNack : Statement .evtStMtSlaNack := fun _ => of_evt _
theorem evtStMtDataAck : Statement .evtStMtDataAck := fun _ => of_evt _
theorem evtStMtDataNack : Statement .evtStMtDataNack := fun _ => of_evt _
theorem evtStMrSlaAck : Statement .evtStMrSlaAck := fun _ => of_evt _
theorem evtStMrSlaNack : Statement .evtStMrSlaNack := fun _ => of_evt _
theorem evtStMrDataAck : Statement .evtStMrDataAck := fun _ => of_evt _
theorem evtStMrDataNack : Statement .evtStMrDataNack := fun _ => of_evt _
theorem evtUnknown (code : Byte) : Statement (.evtUnknown code) := fun _ => of_evt _
theorem hpiConfigureClock : Statement .hpiConfigureClock := fun _ => of_hpi _ _
theorem hpiIssueStart : Statement .hpiIssueStart := fun _ => of_hpi _ _
theorem hpiIssueStop : Statement .hpiIssueStop := fun _ => of_hpi _ _
theorem hpiTransmitByte (b : Byte) : Statement (.hpiTransmitByte b) := fun _ => of_hpi _ _
theorem hpiReceiveByte (policy : AckPolicy) : Statement (.hpiReceiveByte policy) := fun _ => of_hpi _ _
theorem hpiCurrentStatus : Statement .hpiCurrentStatus := fun _ => of_hpi _ _
theorem hpiEnableSlave (addr : BusAddr) : Statement (.hpiEnableSlave addr) := fun _ => of_hpi _ _
theorem hpiDisableSlave : Statement .hpiDisableSlave := fun _ => of_hpi _ _
theorem hpiRearm (policy : AckPolicy) (stop : Bool) : Statement (.hpiRearm policy stop) := fun _ => of_hpi _ _
theorem phyRaiseEvent (status : Byte) (rx : Byte) : Statement (.phyRaiseEvent status rx) := fun _ => by
  have h := (status ++ rx).isLt
  simp only [encode, BitVec.toNat_setWidth, Port.width, Port.argWidth]
  exact ⟨by omega, by decide⟩
theorem cli : Statement .cli := fun _ => ⟨by decide, by decide⟩
theorem sei : Statement .sei := fun _ => ⟨by decide, by decide⟩
theorem hostRd (x : RdTarget) : Statement (.hostRd x) := fun _ => ⟨(0#32 : BitVec 32).isLt, x.number.isLt⟩
theorem hostWr (x : WrTarget) (v : HostWord) : Statement (.hostWr x v) := fun _ => ⟨v.isLt, x.number.isLt⟩

end Sys2Proof.Laws.PortFits
end

