-- ==== Sys2Proof/Tests/Slice0.lean ====
section
/-! SUPPORT. The model's own tests, with the vectors of 95_test_vectors.md as their source, and for every obligation with
hypotheses a state and operands that meet them. -/

namespace Sys2Proof.Tests

open Sys2Proof.Machine

/-! ### WellFormed: for each check a term it refuses, and the neighbour it accepts -/

theorem test_wf_cmdReserved : (Instr.cmdReserved 0x13#8).wf = false ∧ (Instr.cmdReserved 0x0A#8).wf = true := by decide
theorem test_wf_statusUnknown :
    (Instr.statusUnknown 0x08#8 0#8).wf = false ∧ (Instr.statusUnknown 0x09#8 0#8).wf = true := by decide
theorem test_wf_evtUnknown : (Instr.evtUnknown 0xA0#8).wf = false ∧ (Instr.evtUnknown 0xF8#8).wf = true := by decide
theorem test_wf_hostWr :
    (Instr.hostWr .aAddr 0x80#32).wf = false ∧ (Instr.hostWr .aAddr 0x7F#32).wf = true ∧
    (Instr.hostWr .evtIe 2#32).wf = false ∧ (Instr.hostWr (.outbuf 0#8) 0x100#32).wf = false := by decide

/-! ### Decoding: words written out bit by bit from the encodings of the spec, for every constructor -/

/-- Each word, at its port in its receive phase, decodes to the instruction beside it. -/
def decodesTo (p : Port) (arg : BitVec 16) (ph : ReceivePhase) (rows : List (BitVec 32 × Instr)) : Bool :=
  rows.all fun r => decide (decode ph ⟨p, r.1, arg⟩ = .ok r.2)

/-- The fifteen legal command bytes (R103: `OP[2:0]`, `DIR[3]`, `FRAMING[5:4]`; 95 section 2.1). -/
theorem test_decode_commands :
    decodesTo .cmd 0#16 .awaitingIndex
      [(0b00000000#32, .configure), (0b00000001#32, .mStart .write), (0b00001001#32, .mStart .read),
       (0b00000010#32, .mStop), (0b00000011#32, .mWrite .none), (0b00010011#32, .mWrite .start),
       (0b00100011#32, .mWrite .stop), (0b00110011#32, .mWrite .startAndStop), (0b00000100#32, .mRead .none),
       (0b00010100#32, .mRead .start), (0b00100100#32, .mRead .stop), (0b00110100#32, .mRead .startAndStop),
       (0b00000101#32, .mTransfer), (0b00000110#32, .sStart), (0b00000111#32, .sStop)] = true := by decide

/-- The reserved command bytes of 95 section 2.1 (R107). -/
theorem test_decode_reserved :
    ([0x08#8, 0x0A#8, 0x0B#8, 0x11#8, 0x19#8, 0x15#8, 0x36#8, 0x1B#8, 0x40#8, 0x80#8, 0x43#8, 0xFF#8, 0x0F#8, 0x27#8,
      0x3C#8].all fun b => decide (decode .awaitingIndex ⟨.cmd, b.setWidth 32, 0#16⟩ = .ok (.cmdReserved b))) = true := by
  decide

/-- The status values of R97, each with a received byte. -/
theorem test_decode_statuses :
    decodesTo .status 0x5A#16 .awaitingIndex
      [(0b00000000#32, .statusStBusError 0x5A#8), (0b00001000#32, .statusStStart 0x5A#8),
       (0b00010000#32, .statusStRepStart 0x5A#8), (0b00011000#32, .statusStMtSlaAck 0x5A#8),
       (0b00100000#32, .statusStMtSlaNack 0x5A#8), (0b00101000#32, .statusStMtDataAck 0x5A#8),
       (0b00110000#32, .statusStMtDataNack 0x5A#8), (0b01000000#32, .statusStMrSlaAck 0x5A#8),
       (0b01001000#32, .statusStMrSlaNack 0x5A#8), (0b01010000#32, .statusStMrDataAck 0x5A#8),
       (0b01011000#32, .statusStMrDataNack 0x5A#8), (0b01100000#32, .statusStSrSlaAck 0x5A#8),
       (0b10000000#32, .statusStSrDataAck 0x5A#8), (0b10001000#32, .statusStSrDataNack 0x5A#8),
       (0b10100000#32, .statusStSrStop 0x5A#8), (0b10101000#32, .statusStStSlaAck 0x5A#8),
       (0b10111000#32, .statusStStDataAck 0x5A#8), (0b11000000#32, .statusStStDataNack 0x5A#8),
       (0b11001000#32, .statusStStLastData 0x5A#8), (0b11111000#32, .statusUnknown 0xF8#8 0x5A#8)] = true := by decide

/-- The handler rows a latched status selects while the cursor is awaited (R97, R181). -/
theorem test_decode_events_awaiting_index :
    decodesTo .evt 0#16 .awaitingIndex
      [(0b01100000#32, .evtStSrSlaAck), (0b10000000#32, .evtStSrDataAckAwaitingIndex),
       (0b10001000#32, .evtStSrDataNackAwaitingIndex), (0b10101000#32, .evtStStSlaAck), (0b10111000#32, .evtStStDataAck),
       (0b11000000#32, .evtStStDataNack), (0b11001000#32, .evtStStLastData), (0b10100000#32, .evtStSrStop),
       (0b00000000#32, .evtStBusError), (0b00001000#32, .evtStStart), (0b00010000#32, .evtStRepStart),
       (0b00011000#32, .evtStMtSlaAck)] = true := by decide

/-- The handler rows a latched status selects while data is received (R97, R181). -/
theorem test_decode_events_receiving_data :
    decodesTo .evt 0#16 .receivingData
      [(0b10000000#32, .evtStSrDataAckReceivingData), (0b10001000#32, .evtStSrDataNackReceivingData),
       (0b00100000#32, .evtStMtSlaNack), (0b00101000#32, .evtStMtDataAck), (0b00110000#32, .evtStMtDataNack),
       (0b01000000#32, .evtStMrSlaAck), (0b01001000#32, .evtStMrSlaNack), (0b01010000#32, .evtStMrDataAck),
       (0b01011000#32, .evtStMrDataNack), (0b00111000#32, .evtUnknown 0x38#8), (0b01110000#32, .evtUnknown 0x70#8)]
      = true := by decide

/-- The HPI request words of R110 and 95 section 2.1: `HOP` in bits 11 to 8, `HARG` in bits 7 to 0. -/
theorem test_decode_hpi :
    decodesTo .hpi 0#16 .awaitingIndex
      [(0b000000000000#32, .hpiConfigureClock), (0b000100000000#32, .hpiIssueStart), (0b001000000000#32, .hpiIssueStop),
       (0b001110100000#32, .hpiTransmitByte 0xA0#8), (0b010000000001#32, .hpiReceiveByte .ack),
       (0b010000000000#32, .hpiReceiveByte .nack), (0b010100000000#32, .hpiCurrentStatus),
       (0b011000101010#32, .hpiEnableSlave 0x2A#7), (0b011100000000#32, .hpiDisableSlave),
       (0b100000000001#32, .hpiRearm .ack false), (0b100000000000#32, .hpiRearm .nack false),
       (0b100000000011#32, .hpiRearm .ack true)] = true := by decide

/-- The event word of spec/opcode_table.json (status above the byte) and the one-bit write of `EVT_IE` (R218). -/
theorem test_decode_event_and_delivery :
    decodesTo .phyEvent 0#16 .awaitingIndex [(0b1000000000000101#32, .phyRaiseEvent 0x80#8 0x05#8)] = true ∧
    decodesTo .fgIe 0#16 .awaitingIndex [(0b0#32, .cli), (0b1#32, .sei)] = true := by decide

/-- Host accesses, with the model's numbers of the locations (assumption 3). -/
theorem test_decode_host_port :
    decode .awaitingIndex ⟨.hostRd, 0#32, 7#16⟩ = .ok (.hostRd .cap) ∧
    decode .awaitingIndex ⟨.hostRd, 0#32, 0x0205#16⟩ = .ok (.hostRd (.inbuf 5#8)) ∧
    decode .awaitingIndex ⟨.hostWr, 0x186A0#32, 3#16⟩ = .ok (.hostWr .aRate 0x186A0#32) ∧
    decode .awaitingIndex ⟨.hostWr, 0xAA#32, 0x03FF#16⟩ = .ok (.hostWr (.outbuf 0xFF#8) 0xAA#32) := by decide

/-- What is no instruction is rejected by name. -/
theorem test_decode_rejects :
    decode .awaitingIndex ⟨.cmd, 0x100#32, 0#16⟩ = .error (.wordTooWide .cmd) ∧
    decode .awaitingIndex ⟨.status, 0x08#32, 0x100#16⟩ = .error (.argTooWide .status) ∧
    decode .awaitingIndex ⟨.hpi, 0x900#32, 0#16⟩ = .error (.hpiUnassigned 9#4) ∧
    decode .awaitingIndex ⟨.hostRd, 0#32, 9#16⟩ = .error (.noSuchTarget 9#16) ∧
    decode .awaitingIndex ⟨.hostWr, 0x80#32, 0#16⟩ = .error (.valueTooWide .aAddr) := by decide

/-- Words without their port: the reading of assumption 2. -/
theorem test_decode_table_words :
    decodeTableWord 8 0x09 = some (.mStart .read) ∧ decodeTableWord 8 0x60 = some .evtStSrSlaAck ∧
    decodeTableWord 8 0x0A = some (.cmdReserved 0x0A#8) ∧ decodeTableWord 16 0x0301 = some (.hpiTransmitByte 1#8) ∧
    decodeTableWord 16 0x6000 = some (.phyRaiseEvent 0x60#8 0#8) ∧ decodeTableWord 24 0 = none := by decide

/-- The address bytes of 95 section 2.1 (R90, R91). -/
theorem test_address_byte :
    addrByte 0x50#7 .write = 0xA0#8 ∧ addrByte 0x50#7 .read = 0xA1#8 ∧ addrByte 0x7F#7 .read = 0xFF#8 ∧
    addrByte 0x01#7 .write = 0x02#8 := by decide

/-! ### Small states -/

/-- Configured, operands written, two bytes to send, slave role off. -/
def ready : State :=
  { State.reset with
    opnd :=
      { aAddr := 0x50#7, aLen := 2#8, aIlen := 2#8, aRate := 100000#32, aPullups := true, aCap := 8#8
        addrWritten := true, lenWritten := true, ilenWritten := true, rateWritten := true
        pullupsWritten := true, capWritten := true }
    clk := { rate := 100000#32, pullups := true, done := true }
    outbuf := [(0, 0x10#8), (1, 0x20#8)] }

/-- `ready` with other lengths. -/
def lengths (len ilen : Byte) : State := { ready with opnd := { ready.opnd with aLen := len, aIlen := ilen } }

/-- A master command waits for a primitive. -/
def waiting (st : MState) (b : BusStep) (op : BitVec 3) (d : Direction) (f : Framing) : State :=
  { ready with
    mst :=
      { ready.mst with
        mState := st, mBusy := true, mOp := op, mAddr := 0x50#7, mDir := d, mFraming := f, mLen := 2#8, mIlen := 2#8
        mRan := true, mXph := d == .read }
    phy := { ready.phy with step := some b } }

/-- The slave role is enabled, in the notation of 95 section 2.7. -/
def bound (cap : Byte) (ph : ReceivePhase) (i : Byte) (a : AckPolicy) (m : Memory) : State :=
  { ready with
    slv :=
      { ready.slv with
        sEn := true, sAddr := 0x2A#7, cap := cap, capWritten := true, sPhase := ph, index := i, ackNext := a }
    array := m
    phy := { ready.phy with listening := true } }

/-- An event is latched. -/
def latched (code rx : Byte) (s : State) : State :=
  { s with slv := { s.slv with evtPending := true, evtStatus := code, evtRx := rx } }

/-- A condition of the next state. -/
def after (o : Outcome) (p : State → Bool) : Bool :=
  match o with
  | .next t => p t
  | .fault _ => false
  | .refused _ => false

/-- A refusal by this name. -/
def refusedBy (o : Outcome) (r : Refusal) : Bool :=
  match o with
  | .next _ => false
  | .fault _ => false
  | .refused q => q == r

/-- A fault by this name. -/
def faultsBy (o : Outcome) (e : Fault) : Bool :=
  match o with
  | .next _ => false
  | .fault q => q == e
  | .refused _ => false

/-- What a vector of 95 section 2.7 shows of the state after a handler run, with the re-arm as the newest trace entry. -/
def handled (o : Outcome) (ph : ReceivePhase) (i : Byte) (a : AckPolicy) (stop : Bool) (sf : BitVec 3) (m : Memory) : Bool :=
  after o fun t =>
    decide (t.slv.sPhase = ph ∧ t.slv.index = i ∧ t.slv.ackNext = a ∧ t.slv.sfault = sf ∧ t.array = m ∧
      t.trace = [.rearm a stop] ∧ t.slv.evtPending = false)

/-! ### One step each: commands -/

/-- V-Y3, V-Y8. -/
theorem test_configure :
    after (exec .configure { ready with clk := State.reset.clk })
      (fun t => decide (t.clk = ⟨100000#32, true, true⟩ ∧ t.trace = [.configureClock 100000#32 true] ∧
        t.mst.resultValid = false)) = true ∧
    refusedBy (exec .configure (bound 8#8 .awaitingIndex 0#8 .ack [])) .configureWhileSlaveEnabled = true := by decide

/-- V-M1, V-Y1. -/
theorem test_mStart :
    after (exec (.mStart .write) ready)
      (fun t => decide (t.trace = [.issueStart] ∧ t.mst.mState = .startWait ∧ t.mst.mBusy = true)) = true ∧
    refusedBy (exec (.mStart .write) State.reset) .notConfigured = true := by decide

/-- V-M11. -/
theorem test_mStop :
    after (exec .mStop ready) (fun t => decide (t.trace = [.issueStop] ∧ t.mst = ready.mst)) = true := by decide

/-- V-W7, V-Y18. -/
theorem test_mWrite :
    after (exec (.mWrite .stop) (lengths 0#8 0#8))
      (fun t => decide (t.trace = [.issueStop] ∧ t.mst.resultValid = true ∧ t.mst.result = .ok)) = true ∧
    after (exec (.mWrite .none) { ready with opnd := { ready.opnd with addrWritten := false } })
      (fun t => decide (t.trace = [.transmitByte 0x10#8])) = true := by decide

/-- V-R3, V-R4. -/
theorem test_mRead :
    refusedBy (exec (.mRead .startAndStop) (lengths 0#8 0#8)) .readLengthZero = true ∧
    after (exec (.mRead .none) ready) (fun t => decide (t.trace = [.receiveByte .ack])) = true := by decide

/-- V-T2, V-T4. -/
theorem test_mTransfer :
    after (exec .mTransfer (lengths 0#8 2#8)) (fun t => decide (t.trace = [.issueStart] ∧ t.mst.mDir = .read)) = true ∧
    after (exec .mTransfer { lengths 0#8 0#8 with mst := { (lengths 0#8 0#8).mst with mCnt := 7#8 } })
      (fun t => decide (t.trace = [] ∧ t.mst.resultValid = true ∧ t.mst.result = .ok ∧ t.mst.mCnt = 7#8)) = true := by
  decide

/-- V-Y11, V-Y6. -/
theorem test_sStart :
    after (exec .sStart { bound 16#8 .receivingData 5#8 .ack [] with opnd := { ready.opnd with aAddr := 0x2B#7 } })
      (fun t => decide (t.slv.sAddr = 0x2B#7 ∧ t.slv.cap = 8#8 ∧ t.slv.sPhase = .awaitingIndex ∧ t.slv.index = 5#8 ∧
        t.trace = [.enableSlave 0x2B#7])) = true ∧
    refusedBy (exec .sStart { ready with opnd := { ready.opnd with aCap := 0#8 } }) .capacityZero = true := by decide

/-- V-Y9. -/
theorem test_sStop :
    after (exec .sStop (latched 0x60#8 0#8 (bound 8#8 .receivingData 9#8 .ack [(2, 7#8)])))
      (fun t => decide (t.slv.sEn = false ∧ t.slv.sPhase = .awaitingIndex ∧ t.slv.index = 0#8 ∧ t.slv.ackNext = .nack ∧
        t.slv.evtPending = false ∧ t.array = [(2, 7#8)] ∧ t.slv.cap = 8#8 ∧ t.trace = [.disableSlave])) = true := by decide

/-- V-Y16. -/
theorem test_cmdReserved : refusedBy (exec (.cmdReserved 0x0A#8) ready) .reservedEncoding = true := by decide

/-! ### One step each: answers of PHY -/

/-- V-M1, V-M2: the two start confirmations. -/
theorem test_start_confirmed :
    after (exec (.statusStStart 0#8) (waiting .startWait .start 1#3 .write .none))
      (fun t => decide (t.trace = [.transmitByte 0xA0#8, .currentStatus 0x08#8] ∧ t.mst.mState = .addrWait)) = true ∧
    after (exec (.statusStRepStart 0#8) (waiting .startWait .start 1#3 .read .none))
      (fun t => decide (t.trace = [.transmitByte 0xA1#8, .currentStatus 0x10#8] ∧ t.mst.mState = .addrWait)) = true := by
  decide

/-- The state after a failure: no result but FAIL, the trace's last entries, nothing outstanding. -/
def failed (o : Outcome) (tr : List TraceEntry) : Bool :=
  after o fun t =>
    decide (t.mst.mState = .idle ∧ t.mst.mBusy = false ∧ t.mst.resultValid = true ∧ t.mst.result = .fail ∧ t.trace = tr ∧
      t.phy.step = none)

/-- V-M3, V-M4, V-M8 and R169: statuses that are no start confirmation. -/
theorem test_start_failed :
    ([(.statusStBusError 0#8, 0x00#8), (.statusUnknown 0xF8#8 0#8, 0xF8#8), (.statusStMtSlaAck 0#8, 0x18#8),
      (.statusStSrSlaAck 0#8, 0x60#8), (.statusStSrDataAck 0#8, 0x80#8), (.statusStSrDataNack 0#8, 0x88#8),
      (.statusStSrStop 0#8, 0xA0#8), (.statusStStSlaAck 0#8, 0xA8#8), (.statusStStDataAck 0#8, 0xB8#8),
      (.statusStStDataNack 0#8, 0xC0#8), (.statusStStLastData 0#8, 0xC8#8)].all fun p =>
        failed (exec p.1 (waiting .startWait .start 1#3 .write .none)) [.raised .startFailed, .currentStatus p.2]) = true := by
  decide

/-- V-M1, V-M2: the address acknowledged for its own direction. -/
theorem test_address_acknowledged :
    after (exec (.statusStMtSlaAck 0#8) (waiting .addrWait (.transmit 0xA0#8) 1#3 .write .none))
      (fun t => decide (t.trace = [] ∧ t.mst.result = .ok ∧ t.mst.resultValid = true ∧ t.mst.mBusy = false)) = true ∧
    after (exec (.statusStMrSlaAck 0#8) (waiting .addrWait (.transmit 0xA1#8) 4#3 .read .start))
      (fun t => decide (t.trace = [.receiveByte .ack] ∧ t.mst.mState = .rxWait)) = true := by decide

/-- V-M5, V-M6, V-R5: the address rejected. -/
theorem test_address_rejected :
    failed (exec (.statusStMtSlaNack 0#8) (waiting .addrWait (.transmit 0xA0#8) 1#3 .write .none))
      [.raised .addressRejected, .issueStop] = true ∧
    failed (exec (.statusStMrSlaAck 0#8) (waiting .addrWait (.transmit 0xA0#8) 1#3 .write .none))
      [.raised .addressRejected, .issueStop] = true ∧
    failed (exec (.statusStMrSlaNack 0#8) (waiting .addrWait (.transmit 0xA1#8) 4#3 .read .startAndStop))
      [.raised .addressRejected, .issueStop] = true := by decide

/-- V-W1, V-W3: a data byte acknowledged and one rejected, with no stop although the framing closes. -/
theorem test_data_answers :
    after (exec (.statusStMtDataAck 0#8) (waiting .txWait (.transmit 0x10#8) 3#3 .write .startAndStop))
      (fun t => decide (t.trace = [.transmitByte 0x20#8] ∧ t.mst.mCnt = 1#8)) = true ∧
    failed (exec (.statusStMtDataNack 0#8) (waiting .txWait (.transmit 0x10#8) 3#3 .write .startAndStop))
      [.raised .dataRejected] = true := by decide

/-- V-R1, V-R7: received bytes, the last one in a read that closes. -/
theorem test_received_bytes :
    after (exec (.statusStMrDataAck 0x11#8) (waiting .rxWait (.receive .ack) 4#3 .read .stop))
      (fun t => decide (t.trace = [.receiveByte .nack] ∧ t.inbuf = [(0, 0x11#8)] ∧ t.mst.mCnt = 1#8)) = true ∧
    after (exec (.statusStMrDataNack 0x33#8)
        { waiting .rxWait (.receive .nack) 4#3 .read .stop with
          mst := { (waiting .rxWait (.receive .nack) 4#3 .read .stop).mst with mCnt := 1#8 } })
      (fun t => decide (t.trace = [.issueStop] ∧ t.inbuf = [(1, 0x33#8)] ∧ t.mst.result = .ok ∧ t.mst.mState = .idle))
      = true := by decide

/-- R234: a bounded wait ends with Timeout, and no stop. -/
theorem test_timeout :
    failed (step { waiting .startWait .start 1#3 .write .none with waitLimit := some 1 }) [.raised .timeout] = true := by
  decide

/-! ### One step each: the handler -/

/-- V-S1. -/
theorem test_evtStSrSlaAck :
    handled (exec .evtStSrSlaAck (latched 0x60#8 0#8 (bound 8#8 .receivingData 7#8 .nack []))) .awaitingIndex 0#8 .ack
      false 0#3 [] = true := by decide

/-- V-S2, V-S20. -/
theorem test_evtStSrDataAckAwaitingIndex :
    handled (exec .evtStSrDataAckAwaitingIndex (latched 0x80#8 0x05#8 (bound 8#8 .awaitingIndex 0#8 .ack []))) .receivingData
      5#8 .ack false 0#3 [] = true ∧
    handled (exec .evtStSrDataAckAwaitingIndex (latched 0x80#8 0xFF#8 (bound 4#8 .awaitingIndex 0#8 .ack []))) .receivingData
      255#8 .ack false 0#3 [] = true := by decide

/-- V-S4, V-S19. -/
theorem test_evtStSrDataAckReceivingData :
    handled (exec .evtStSrDataAckReceivingData (latched 0x80#8 0xBB#8 (bound 8#8 .receivingData 6#8 .ack []))) .receivingData
      7#8 .nack false 0#3 [(6, 0xBB#8)] = true ∧
    handled (exec .evtStSrDataAckReceivingData (latched 0x80#8 0x01#8 (bound 4#8 .receivingData 255#8 .ack [])))
      .receivingData 0#8 .ack false 0b001#3 [] = true := by decide

/-- V-S5, V-S9. -/
theorem test_evtStSrDataNackReceivingData :
    handled (exec .evtStSrDataNackReceivingData (latched 0x88#8 0xCC#8 (bound 8#8 .receivingData 7#8 .nack [])))
      .awaitingIndex 0#8 .ack false 0#3 [(7, 0xCC#8)] = true ∧
    handled (exec .evtStSrDataNackReceivingData (latched 0x88#8 0x99#8 (bound 4#8 .receivingData 4#8 .nack [])))
      .awaitingIndex 0#8 .ack false 0b001#3 [] = true := by decide

/-- V-S6. -/
theorem test_evtStSrDataNackAwaitingIndex :
    handled (exec .evtStSrDataNackAwaitingIndex (latched 0x88#8 0x33#8 (bound 8#8 .awaitingIndex 0#8 .ack [])))
      .awaitingIndex 0#8 .ack false 0b100#3 [] = true := by decide

/-- V-S16, V-S23. -/
theorem test_evtStStSlaAck :
    handled (exec .evtStStSlaAck (latched 0xA8#8 0#8 (bound 8#8 .receivingData 2#8 .ack [(2, 0x22#8)]))) .receivingData 3#8
      .ack false 0#3 [(2, 0x22#8)] = true ∧
    handled (exec .evtStStSlaAck (latched 0xA8#8 0#8 (bound 4#8 .awaitingIndex 4#8 .ack []))) .awaitingIndex 5#8 .nack
      false 0b010#3 [] = true := by decide

/-- V-S8. -/
theorem test_evtStStDataAck :
    handled (exec .evtStStDataAck (latched 0xB8#8 0#8 (bound 8#8 .awaitingIndex 7#8 .ack [(7, 0x77#8)]))) .awaitingIndex 8#8
      .nack false 0#3 [(7, 0x77#8)] = true ∧
    after (exec .evtStStDataAck (latched 0xB8#8 0#8 (bound 8#8 .awaitingIndex 7#8 .ack [(7, 0x77#8)])))
      (fun t => decide (t.slv.txData = 0x77#8)) = true := by decide

/-- V-S11. -/
theorem test_evtStStDataNack :
    handled (exec .evtStStDataNack (latched 0xC0#8 0#8 (bound 8#8 .receivingData 3#8 .ack []))) .awaitingIndex 0#8 .ack
      false 0#3 [] = true := by decide

/-- V-S10. -/
theorem test_evtStStLastData :
    handled (exec .evtStStLastData (latched 0xC8#8 0#8 (bound 8#8 .awaitingIndex 8#8 .nack []))) .awaitingIndex 0#8 .ack
      false 0#3 [] = true := by decide

/-- V-S12. -/
theorem test_evtStSrStop :
    handled (exec .evtStSrStop (latched 0xA0#8 0#8 (bound 8#8 .receivingData 9#8 .ack []))) .awaitingIndex 9#8 .ack
      false 0#3 [] = true := by decide

/-- V-S13, V-S14, V-S15, and the other master-role statuses, which R181 puts in the same row. -/
theorem test_recovery_rows :
    ([(.evtUnknown 0xF8#8, 0xF8#8), (.evtStBusError, 0x00#8), (.evtStStart, 0x08#8), (.evtStRepStart, 0x10#8),
      (.evtStMtSlaAck, 0x18#8), (.evtStMtSlaNack, 0x20#8), (.evtStMtDataAck, 0x28#8), (.evtStMtDataNack, 0x30#8),
      (.evtStMrSlaAck, 0x40#8), (.evtStMrSlaNack, 0x48#8), (.evtStMrDataAck, 0x50#8), (.evtStMrDataNack, 0x58#8)].all
        fun p =>
          handled (exec p.1 (latched p.2 0#8 (bound 8#8 .receivingData 4#8 .nack []))) .awaitingIndex 0#8 .ack true 0b100#3
            []) = true := by decide

/-- V-Y12: with delivery disabled no row runs; R181: another row than the selected one does not run. -/
theorem test_handler_checks :
    refusedBy (exec .evtStSrSlaAck
        { latched 0x60#8 0#8 (bound 8#8 .awaitingIndex 0#8 .ack []) with
          slv := { (latched 0x60#8 0#8 (bound 8#8 .awaitingIndex 0#8 .ack [])).slv with evtIe := false } }) .handlerNotEnabled = true ∧
    refusedBy (exec .evtStSrStop (latched 0x60#8 0#8 (bound 8#8 .awaitingIndex 0#8 .ack []))) .rowNotSelected = true := by decide

/-! ### One step each: the physical layer, the foreground -/

/-- R120 to R124, R130, R131, R134: what each primitive adds to the trace. -/
theorem test_hpi_primitives :
    ([(.hpiConfigureClock, .configureClock 100000#32 true), (.hpiIssueStart, .issueStart), (.hpiIssueStop, .issueStop),
      (.hpiTransmitByte 0xA0#8, .transmitByte 0xA0#8), (.hpiReceiveByte .nack, .receiveByte .nack),
      (.hpiEnableSlave 0x2A#7, .enableSlave 0x2A#7), (.hpiDisableSlave, .disableSlave),
      (.hpiRearm .ack true, .rearm .ack true)].all fun p =>
        after (exec p.1 ready) (fun t => decide (t.trace = [p.2]))) = true := by decide

/-- R71: nothing else runs while a master command runs. -/
theorem test_hpi_while_command_runs :
    ([.hpiConfigureClock, .hpiIssueStop, .hpiCurrentStatus, .hpiEnableSlave 0x2A#7, .hpiDisableSlave,
      .hpiRearm .ack false].all fun i =>
        refusedBy (exec i (waiting .startWait .start 1#3 .write .none)) .commandRunning) = true := by decide

/-- R125, item U27 of 93. -/
theorem test_hpiCurrentStatus :
    faultsBy (exec .hpiCurrentStatus ready) .noCurrentStatus = true ∧
    after (exec .hpiCurrentStatus { ready with phy := { ready.phy with status := 0x28#8, statusKnown := true } })
      (fun t => decide (t.trace = [.currentStatus 0x28#8])) = true := by decide

/-- V-Y12 (R132, R136). -/
theorem test_phyRaiseEvent :
    after (exec (.phyRaiseEvent 0x80#8 0x05#8) (bound 8#8 .awaitingIndex 0#8 .ack []))
      (fun t => decide (t.slv.evtPending = true ∧ t.slv.evtStatus = 0x80#8 ∧ t.slv.evtRx = 0x05#8)) = true ∧
    refusedBy (exec (.phyRaiseEvent 0x80#8 0x05#8) (latched 0x60#8 0#8 (bound 8#8 .awaitingIndex 0#8 .ack []))) .eventNotAllowed = true := by decide

/-- R218. -/
theorem test_cli_sei :
    after (exec .cli ready) (fun t => decide (t.slv.evtIe = false)) = true ∧
    after (exec .sei { ready with slv := { ready.slv with evtIe := false } }) (fun t => decide (t.slv.evtIe = true)) = true := by
  decide

/-- V-Y14, V-Y15. -/
theorem test_hostRd :
    faultsBy (exec (.hostRd .result) State.reset) (.unwrittenRegister .result) = true ∧
    faultsBy (exec (.hostRd (.inbuf 0#8)) ready) (.unwrittenCell .inbuf 0#8) = true := by decide

/-- V-Y10's cursor write; a command through its byte (V-M11). -/
theorem test_hostWr :
    after (exec (.hostWr .index 3#32) ready) (fun t => decide (t.slv.index = 3#8)) = true ∧
    after (exec (.hostWr .cmd 0x02#32) ready) (fun t => decide (t.trace = [.issueStop])) = true := by decide

/-! ### Steps from a placed word -/

/-- The very next step runs the word that was placed. -/
theorem test_placed_words :
    after (step (State.reset.withFetchWord 16 0x0202)) (fun t => decide (t.trace = [.issueStop])) = true ∧
    after (step (State.reset.withFetchWord 8 0x07)) (fun t => decide (t.trace = [.disableSlave])) = true ∧
    after (step (State.reset.withFetchWord 8 0x60)) (fun t => decide (t.trace = [.rearm .ack false])) = true ∧
    refusedBy (step (State.reset.withFetchWord 8 0x01)) .notConfigured = true := by decide

/-! ### Witnesses: for every obligation with hypotheses, states and operands that meet all of them together -/

/-- `waiting` for a start, with the invariant's premises met. -/
def starting : State := waiting .startWait .start 3#3 .write .start

/-- `waiting` for the answer to the address byte, and whether it is a read. -/
def addressing (op : BitVec 3) : Direction → State
  | .write => waiting .addrWait (.transmit 0xA0#8) op .write .start
  | .read => waiting .addrWait (.transmit 0xA1#8) op .read .start

def sending : State := waiting .txWait (.transmit 0x10#8) 3#3 .write .start

def receiving : State := waiting .rxWait (.receive .ack) 4#3 .read .start

theorem starting_inv : Inv starting where
  array_wf := rfl
  outbuf_wf := rfl
  inbuf_wf := rfl
  busy := by decide
  sequenced := ⟨rfl, .inr (.inl ⟨rfl, rfl⟩)⟩
  one_role := by decide
  configured := by decide
  capacity := by decide
  pending := by decide

theorem witness_DecodingAnEncodedInstructionGivesItBack :
    (Instr.mWrite .startAndStop).wf = true ∧ (Instr.mWrite .startAndStop).inPhase .awaitingIndex = true ∧
    Instr.evtStSrDataAckReceivingData.wf = true ∧ Instr.evtStSrDataAckReceivingData.inPhase .receivingData = true ∧
    (Instr.hostWr .aAddr 0x7F#32).wf = true ∧ (Instr.evtUnknown 0xFF#8).wf = true := by decide

theorem witness_DecodedInstructionsAreWellFormed :
    decode .receivingData ⟨.evt, 0x88#32, 0#16⟩ = .ok .evtStSrDataNackReceivingData := by decide

theorem witness_ClassificationIsTotalAndInjective :
    classify 0xC8#8 ≠ .unknown ∧ classify 0xC8#8 = classify 0xC8#8 := by decide

theorem witness_StepRunsTheDecodedInstruction :
    (turnWord (.word ⟨.fgIe, 1#32, 0#16⟩) { ready with script := [.word ⟨.fgIe, 1#32, 0#16⟩] } = some ⟨.fgIe, 1#32, 0#16⟩ ∧
      decode ready.slv.sPhase ⟨.fgIe, 1#32, 0#16⟩ = .ok .sei) ∧
    (turnWord (.word ⟨.hpi, 0xFFF#32, 0#16⟩) { ready with script := [.word ⟨.hpi, 0xFFF#32, 0#16⟩] } =
        some ⟨.hpi, 0xFFF#32, 0#16⟩ ∧
      decode ready.slv.sPhase ⟨.hpi, 0xFFF#32, 0#16⟩ = .error (.hpiUnassigned 15#4)) ∧
    ({ latched 0xC8#8 0#8 ready with script := [.deliver] }.script = [.deliver] ∧
      decode (latched 0xC8#8 0#8 ready).slv.sPhase ⟨.evt, (latched 0xC8#8 0#8 ready).slv.evtStatus.setWidth 32, 0#16⟩ =
        .ok .evtStStLastData) := by decide

/-- A waiting command, with a script of idle turns and with none. -/
theorem witness_UnansweredWaitHangs :
    NoStrictFaultRecorded starting ∧
    starting.mst.mState ≠ .idle ∧ starting.waitLimit = none ∧
    (∀ turn ∈ { starting with script := [.idle, .idle] }.script, turn = Turn.idle) ∧
    (∀ turn ∈ starting.script, turn = Turn.idle) := by decide

/-- Both clauses, where they meet: the bound reached by the first poll, and one poll before it. -/
theorem witness_BoundedWaitEndsWithTimeout :
    NoStrictFaultRecorded starting ∧
    (starting.mst.mState ≠ .idle ∧ { starting with waitLimit := some 1, script := [.idle] }.waitLimit = some 1 ∧
      1 ≤ starting.phy.polls + 1) ∧
    (starting.mst.mState ≠ .idle ∧ { starting with waitLimit := some 2, script := [.idle] }.waitLimit = some 2 ∧
      starting.phy.polls + 1 < 2) := by decide

theorem witness_ForegroundIsBlockedWhileItWaits :
    (isForegroundStep .cli = true ∧ starting.mst.mState ≠ .idle) ∧
    (isForegroundStep .cli = true ∧ { ready with phy := { ready.phy with step := some .start } }.phy.step ≠ none) := by decide

theorem witness_ForegroundIsBlockedWhileItWaits_not_reserved : ∀ b, Instr.cli ≠ .cmdReserved b := by
  intro b h
  cases h

theorem witness_ConfigureStoresAndForwards :
    NoStrictFaultRecorded (bound 8#8 .awaitingIndex 0#8 .ack []) ∧ NoStrictFaultRecorded ready ∧
    (ForegroundReady (bound 8#8 .awaitingIndex 0#8 .ack []) ∧ (bound 8#8 .awaitingIndex 0#8 .ack []).slv.sEn = true) ∧
    (ForegroundReady ready ∧ ready.slv.sEn = false ∧ ready.opnd.rateWritten = true ∧ ready.opnd.pullupsWritten = true) := by
  decide

/-- The capacity 0, and the boundary 1. -/
theorem witness_SlaveStartBindsAndEnables :
    NoStrictFaultRecorded ready ∧
    (ForegroundReady ready ∧ ready.clk.done = true ∧ ready.opnd.addrWritten = true ∧ ready.opnd.capWritten = true) ∧
    { ready.opnd with aCap := 0#8 }.aCap = 0#8 ∧ { ready.opnd with aCap := 1#8 }.aCap ≠ 0#8 := by decide

theorem witness_SlaveStopResetsTheSession :
    NoStrictFaultRecorded State.reset ∧
    ForegroundReady State.reset := by decide

theorem witness_CliAndSeiWriteEvtIe :
    NoStrictFaultRecorded ready ∧
    ForegroundReady ready := by decide

theorem witness_CommandsAreRefusedByName :
    ForegroundReady State.reset ∧ State.reset.clk.done = false ∧ State.reset.slv.sEn = false ∧
    State.reset.opnd.rateWritten = false ∧
    ForegroundReady (bound 8#8 .awaitingIndex 0#8 .ack []) ∧ (bound 8#8 .awaitingIndex 0#8 .ack []).clk.done = true ∧
    (bound 8#8 .awaitingIndex 0#8 .ack []).slv.sEn = true := by decide

/-- The operand clauses: configured, slave off, with one operand register not written, and a read of length 0. -/
theorem witness_CommandsAreRefusedByName_operands :
    ForegroundReady { ready with opnd := State.reset.opnd } ∧ { ready with opnd := State.reset.opnd }.clk.done = true ∧
    { ready with opnd := State.reset.opnd }.slv.sEn = false ∧ State.reset.opnd.addrWritten = false ∧
    State.reset.opnd.lenWritten = false ∧ Framing.start.opens = true ∧
    ForegroundReady (lengths 0#8 0#8) ∧ (lengths 0#8 0#8).clk.done = true ∧ (lengths 0#8 0#8).slv.sEn = false ∧
    (lengths 0#8 0#8).opnd.lenWritten = true ∧ (lengths 0#8 0#8).opnd.addrWritten = true ∧
    (lengths 0#8 0#8).opnd.aLen = 0#8 := by decide

theorem witness_MasterStartRequestsOneStart :
    NoStrictFaultRecorded ready ∧
    MasterReady ready ∧ ready.opnd.addrWritten = true := by decide

theorem witness_MasterStopIsOneStopRequest :
    NoStrictFaultRecorded ready ∧
    MasterReady ready := by decide

/-- The four clauses: an opening framing; length 0; a first byte; a first cell nothing has written. -/
theorem witness_MasterWriteBegins :
    NoStrictFaultRecorded ready ∧ NoStrictFaultRecorded (lengths 0#8 0#8) ∧
    (MasterReady ready ∧ ready.opnd.lenWritten = true ∧ ready.opnd.addrWritten = true) ∧
    (MasterReady (lengths 0#8 0#8) ∧ (lengths 0#8 0#8).opnd.lenWritten = true ∧ (lengths 0#8 0#8).opnd.aLen = 0#8) ∧
    (ready.opnd.aLen ≠ 0#8 ∧ ready.outbuf.read 0 = some 0x10#8) ∧
    (MasterReady { ready with outbuf := [] } ∧ { ready with outbuf := [] }.opnd.aLen ≠ 0#8 ∧
      { ready with outbuf := [] }.outbuf.read 0 = none) := by decide

/-- The boundary length 1, and 255. -/
theorem witness_MasterReadBegins :
    NoStrictFaultRecorded (lengths 1#8 0#8) ∧ NoStrictFaultRecorded (lengths 255#8 0#8) ∧
    (MasterReady (lengths 1#8 0#8) ∧ (lengths 1#8 0#8).opnd.lenWritten = true ∧ (lengths 1#8 0#8).opnd.aLen ≠ 0#8 ∧
      (lengths 1#8 0#8).opnd.addrWritten = true) ∧
    (MasterReady (lengths 255#8 0#8) ∧ (lengths 255#8 0#8).opnd.aLen ≠ 0#8) := by decide

theorem witness_MasterTransferBegins :
    NoStrictFaultRecorded ready ∧ NoStrictFaultRecorded (lengths 0#8 2#8) ∧ NoStrictFaultRecorded (lengths 0#8 0#8) ∧
    (MasterReady ready ∧ ready.opnd.addrWritten = true ∧ ready.opnd.lenWritten = true ∧ ready.opnd.ilenWritten = true ∧
      ready.opnd.aLen ≠ 0#8) ∧
    (MasterReady (lengths 0#8 2#8) ∧ (lengths 0#8 2#8).opnd.aLen = 0#8 ∧ (lengths 0#8 2#8).opnd.aIlen ≠ 0#8) ∧
    (MasterReady (lengths 0#8 0#8) ∧ (lengths 0#8 0#8).opnd.aLen = 0#8 ∧ (lengths 0#8 0#8).opnd.aIlen = 0#8) := by decide

theorem witness_StartAnswerSendsAddressOrFails :
    NoStrictFaultRecorded starting ∧
    (statusRow (.statusStRepStart 0#8) = some (0x10#8, 0#8) ∧ starting.mst.mState = .startWait ∧
      starting.phy.step = some .start) ∧
    (statusRow (.statusUnknown 0xF8#8 0#8) = some (0xF8#8, 0#8) ∧ (0xF8#8 : Byte) ≠ 0x08#8 ∧ (0xF8#8 : Byte) ≠ 0x10#8) := by
  decide

theorem witness_AddressAnswerReleasesTheBusOrSucceeds :
    NoStrictFaultRecorded (addressing 1#3 .write) ∧ NoStrictFaultRecorded (addressing 1#3 .read) ∧
    (statusRow (.statusStMrSlaAck 0#8) = some (0x40#8, 0#8) ∧ (addressing 1#3 .write).mst.mState = .addrWait ∧
      (addressing 1#3 .write).phy.step = some (.transmit 0xA0#8) ∧ (addressing 1#3 .write).mst.mDir = .write ∧
      (0x40#8 : Byte) ≠ 0x18#8) ∧
    (statusRow (.statusStMrSlaAck 0#8) = some (0x40#8, 0#8) ∧ (addressing 1#3 .read).mst.mState = .addrWait ∧
      (addressing 1#3 .read).phy.step = some (.transmit 0xA1#8) ∧ (addressing 1#3 .read).mst.mDir = .read ∧
      (addressing 1#3 .read).mst.mOp = 1#3) := by decide

/-- The four clauses: a byte to send, a cell nothing has written, length 0, a read. -/
theorem witness_AcknowledgedAddressBeginsTheBody :
    NoStrictFaultRecorded (addressing 3#3 .write) ∧ NoStrictFaultRecorded (addressing 4#3 .read) ∧
    (statusRow (.statusStMtSlaAck 0#8) = some (0x18#8, 0#8) ∧ (addressing 3#3 .write).mst.mState = .addrWait ∧
      (addressing 3#3 .write).phy.step = some (.transmit 0xA0#8) ∧ (addressing 3#3 .write).mst.mOp ≠ 1#3 ∧
      (addressing 3#3 .write).mst.mDir = .write ∧ (addressing 3#3 .write).mst.mLen ≠ 0#8 ∧
      (addressing 3#3 .write).outbuf.read 0 = some 0x10#8) ∧
    { addressing 3#3 .write with outbuf := [] }.outbuf.read 0 = none ∧
    { (addressing 3#3 .write).mst with mLen := 0#8 }.mLen = 0#8 ∧
    (statusRow (.statusStMrSlaAck 0#8) = some (0x40#8, 0#8) ∧ (addressing 4#3 .read).mst.mState = .addrWait ∧
      (addressing 4#3 .read).phy.step = some (.transmit 0xA1#8) ∧ (addressing 4#3 .read).mst.mOp ≠ 1#3 ∧
      (addressing 4#3 .read).mst.mDir = .read) := by decide

/-- The four clauses: a rejected byte; the next byte; the next cell not written; the last byte. -/
theorem witness_DataAnswerContinuesOrFails :
    NoStrictFaultRecorded sending ∧
    (statusRow (.statusStMtDataNack 0#8) = some (0x30#8, 0#8) ∧ sending.mst.mState = .txWait ∧
      sending.phy.step = some (.transmit 0x10#8) ∧ (0x30#8 : Byte) ≠ 0x28#8) ∧
    (statusRow (.statusStMtDataAck 0#8) = some (0x28#8, 0#8) ∧ sending.mst.mCnt.toNat + 1 < sending.mst.mLen.toNat ∧
      sending.outbuf.read (sending.mst.mCnt.toNat + 1) = some 0x20#8) ∧
    { sending with outbuf := [(0, 0x10#8)] }.outbuf.read (sending.mst.mCnt.toNat + 1) = none ∧
    { sending.mst with mCnt := 1#8 }.mLen.toNat ≤ { sending.mst with mCnt := 1#8 }.mCnt.toNat + 1 := by decide

/-- The two clauses: a byte with one to come, and the last. -/
theorem witness_ReceivedByteIsStoredWhateverItsStatus :
    NoStrictFaultRecorded receiving ∧
    (statusRow (.statusStBusError 0x11#8) = some (0x00#8, 0x11#8) ∧ receiving.mst.mState = .rxWait ∧
      receiving.phy.step = some (.receive .ack) ∧ receiving.mst.mOp ≠ 5#3 ∧
      receiving.mst.mCnt.toNat + 1 < receiving.mst.mLen.toNat) ∧
    { receiving.mst with mCnt := 1#8 }.mLen.toNat ≤ { receiving.mst with mCnt := 1#8 }.mCnt.toNat + 1 := by decide

theorem witness_EndOfBodyClosesOrGoesOn :
    NoStrictFaultRecorded sending ∧
    sending.mst.mOp ≠ 5#3 ∧
    ({ sending.mst with mOp := 5#3 }.mOp = 5#3 ∧ { sending.mst with mOp := 5#3 }.mIlen ≠ 0#8) ∧
    { sending.mst with mOp := 5#3, mIlen := 0#8 }.mIlen = 0#8 := by decide

theorem witness_AnswerCompletesTheOutstandingStep :
    NoStrictFaultRecorded ready ∧
    (statusRow (.statusStMrDataAck 0x11#8) = some (0x50#8, 0x11#8) ∧
      { ready with phy := { ready.phy with step := some (.receive .ack) } }.mst.mState = .idle ∧
      { ready with phy := { ready.phy with step := some (.receive .ack) } }.phy.step = some (.receive .ack)) ∧
    ready.phy.step = none := by decide

theorem witness_AddressMatchResetsTheCursor :
    NoStrictFaultRecorded (latched 0x60#8 0#8 (bound 8#8 .receivingData 7#8 .nack [])) ∧
    Delivers (latched 0x60#8 0#8 (bound 8#8 .receivingData 7#8 .nack [])) 0x60#8 := by decide

theorem witness_FirstByteBecomesTheCursor :
    NoStrictFaultRecorded (latched 0x80#8 0xFF#8 (bound 8#8 .awaitingIndex 0#8 .ack [])) ∧
    Delivers (latched 0x80#8 0xFF#8 (bound 8#8 .awaitingIndex 0#8 .ack [])) 0x80#8 ∧
    (latched 0x80#8 0xFF#8 (bound 8#8 .awaitingIndex 0#8 .ack [])).slv.sPhase = .awaitingIndex := by decide

/-- The last cell of the file, and the first offset beyond it. -/
theorem witness_DataByteIsStoredAtTheCursor :
    NoStrictFaultRecorded (latched 0x80#8 1#8 (bound 8#8 .receivingData 7#8 .ack [])) ∧
    NoStrictFaultRecorded (latched 0x80#8 1#8 (bound 8#8 .receivingData 8#8 .ack [])) ∧
    (Delivers (latched 0x80#8 1#8 (bound 8#8 .receivingData 7#8 .ack [])) 0x80#8 ∧
      (latched 0x80#8 1#8 (bound 8#8 .receivingData 7#8 .ack [])).slv.sPhase = .receivingData ∧
      (latched 0x80#8 1#8 (bound 8#8 .receivingData 7#8 .ack [])).slv.index.toNat < 8) ∧
    (Delivers (latched 0x80#8 1#8 (bound 8#8 .receivingData 8#8 .ack [])) 0x80#8 ∧
      8 ≤ (latched 0x80#8 1#8 (bound 8#8 .receivingData 8#8 .ack [])).slv.index.toNat) := by decide

theorem witness_UnacknowledgedByteIsStoredClamped :
    NoStrictFaultRecorded (latched 0x88#8 1#8 (bound 8#8 .receivingData 7#8 .nack [])) ∧
    NoStrictFaultRecorded (latched 0x88#8 1#8 (bound 8#8 .receivingData 8#8 .nack [])) ∧
    (Delivers (latched 0x88#8 1#8 (bound 8#8 .receivingData 7#8 .nack [])) 0x88#8 ∧
      (latched 0x88#8 1#8 (bound 8#8 .receivingData 7#8 .nack [])).slv.sPhase = .receivingData ∧
      (latched 0x88#8 1#8 (bound 8#8 .receivingData 7#8 .nack [])).slv.index.toNat < 8) ∧
    (Delivers (latched 0x88#8 1#8 (bound 8#8 .receivingData 8#8 .nack [])) 0x88#8 ∧
      8 ≤ (latched 0x88#8 1#8 (bound 8#8 .receivingData 8#8 .nack [])).slv.index.toNat) := by decide

theorem witness_NackedByteWithoutCursorIsRecorded :
    NoStrictFaultRecorded (latched 0x88#8 1#8 (bound 8#8 .awaitingIndex 0#8 .ack [])) ∧
    Delivers (latched 0x88#8 1#8 (bound 8#8 .awaitingIndex 0#8 .ack [])) 0x88#8 ∧
    (latched 0x88#8 1#8 (bound 8#8 .awaitingIndex 0#8 .ack [])).slv.sPhase = .awaitingIndex := by decide

/-- The three clauses: the last cell, written; the last cell, not written; the first offset beyond the file. -/
theorem witness_TransmitRowSuppliesTheByteAtTheCursor :
    NoStrictFaultRecorded (latched 0xB8#8 0#8 (bound 8#8 .awaitingIndex 7#8 .ack [(7, 0x77#8)])) ∧
    NoStrictFaultRecorded (latched 0xA8#8 0#8 (bound 8#8 .awaitingIndex 7#8 .ack [])) ∧
    NoStrictFaultRecorded (latched 0xA8#8 0#8 (bound 8#8 .awaitingIndex 8#8 .ack [])) ∧
    (Delivers (latched 0xB8#8 0#8 (bound 8#8 .awaitingIndex 7#8 .ack [(7, 0x77#8)])) 0xB8#8 ∧
      (latched 0xB8#8 0#8 (bound 8#8 .awaitingIndex 7#8 .ack [(7, 0x77#8)])).array.read 7 = some 0x77#8) ∧
    (Delivers (latched 0xA8#8 0#8 (bound 8#8 .awaitingIndex 7#8 .ack [])) 0xA8#8 ∧
      (latched 0xA8#8 0#8 (bound 8#8 .awaitingIndex 7#8 .ack [])).array.read 7 = none) ∧
    (Delivers (latched 0xA8#8 0#8 (bound 8#8 .awaitingIndex 8#8 .ack [])) 0xA8#8 ∧
      8 ≤ (latched 0xA8#8 0#8 (bound 8#8 .awaitingIndex 8#8 .ack [])).slv.index.toNat) := by decide

theorem witness_EndOfReadResetsTheCursor :
    NoStrictFaultRecorded (latched 0xC0#8 0#8 (bound 8#8 .awaitingIndex 3#8 .ack [])) ∧
    NoStrictFaultRecorded (latched 0xC8#8 0#8 (bound 8#8 .awaitingIndex 8#8 .nack [])) ∧
    Delivers (latched 0xC0#8 0#8 (bound 8#8 .awaitingIndex 3#8 .ack [])) 0xC0#8 ∧
    Delivers (latched 0xC8#8 0#8 (bound 8#8 .awaitingIndex 8#8 .nack [])) 0xC8#8 := by decide

theorem witness_StopConditionLeavesTheCursor :
    NoStrictFaultRecorded (latched 0xA0#8 0#8 (bound 8#8 .receivingData 9#8 .ack [])) ∧
    Delivers (latched 0xA0#8 0#8 (bound 8#8 .receivingData 9#8 .ack [])) 0xA0#8 := by decide

theorem witness_UnrecognisedStatusRecovers :
    NoStrictFaultRecorded (latched 0xF8#8 0#8 (bound 8#8 .receivingData 4#8 .ack [])) ∧
    NoStrictFaultRecorded (latched 0x00#8 0#8 (bound 8#8 .receivingData 4#8 .ack [])) ∧
    recoveryRow (.evtUnknown 0xF8#8) = some 0xF8#8 ∧ (Instr.evtUnknown 0xF8#8).wf = true ∧
    Delivers (latched 0xF8#8 0#8 (bound 8#8 .receivingData 4#8 .ack [])) 0xF8#8 ∧
    recoveryRow .evtStBusError = some 0x00#8 ∧ Instr.evtStBusError.wf = true ∧
    Delivers (latched 0x00#8 0#8 (bound 8#8 .receivingData 4#8 .ack [])) 0x00#8 := by decide

theorem witness_RowsAreTheWholeHandler :
    NoStrictFaultRecorded (handler (latched 0x80#8 1#8 (bound 8#8 .receivingData 7#8 .ack []))) ∧
    (latched 0x80#8 1#8 (bound 8#8 .receivingData 7#8 .ack [])).slv.sEn = true ∧
    (latched 0x80#8 1#8 (bound 8#8 .receivingData 7#8 .ack [])).slv.evtIe = true ∧
    (latched 0x80#8 1#8 (bound 8#8 .receivingData 7#8 .ack [])).slv.evtPending = true := by decide

/-- A row that runs and stores in the last cell: for `HandlerRunsExactlyWhenDelivered` and `HandlerRunFrame`. -/
theorem witness_handler_run :
    NoStrictFaultRecorded (latched 0x80#8 1#8 (bound 8#8 .receivingData 7#8 .ack [])) ∧
    isRow .evtStSrDataAckReceivingData = true ∧
    ∃ t, exec .evtStSrDataAckReceivingData (latched 0x80#8 1#8 (bound 8#8 .receivingData 7#8 .ack [])) = .next t ∧
      NoStrictFaultRecorded t :=
  ⟨by decide, rfl, _, rfl, by decide⟩

theorem witness_ReceivedByteMattersToDataRowsOnly :
    isRow .evtStSrStop = true ∧ (0xA0#8 : Byte) ≠ 0x80#8 ∧ (0xA0#8 : Byte) ≠ 0x88#8 ∧
    ∃ t, exec .evtStSrStop (latched 0xA0#8 0#8 (bound 8#8 .receivingData 9#8 .ack [])) = .next t ∧
      NoStrictFaultRecorded t :=
  ⟨rfl, by decide, by decide, _, rfl, by decide⟩

/-- Each clause: nothing runs; a primitive by itself is outstanding; a command runs; the status is known, and is not. -/
theorem witness_MasterSidePrimitivesRequestOneStep :
    NoStrictFaultRecorded ready ∧ NoStrictFaultRecorded starting ∧
    (ready.mst.mState = .idle ∧ ready.phy.step = none) ∧
    { ready with phy := { ready.phy with step := some .start } }.mst.mState = .idle ∧
    { ready with phy := { ready.phy with step := some .start } }.phy.step ≠ none ∧ starting.mst.mState ≠ .idle ∧
    ready.phy.statusKnown = false ∧ { ready.phy with statusKnown := true }.statusKnown = true := by decide

theorem witness_SlaveSidePrimitives :
    NoStrictFaultRecorded ready ∧ NoStrictFaultRecorded starting ∧
    ready.mst.mState = .idle ∧ starting.mst.mState ≠ .idle := by decide

theorem witness_EventIsLatchedOneDeep :
    NoStrictFaultRecorded (bound 8#8 .awaitingIndex 0#8 .ack []) ∧ NoStrictFaultRecorded ready ∧
    ((bound 8#8 .awaitingIndex 0#8 .ack []).slv.sEn = true ∧ (bound 8#8 .awaitingIndex 0#8 .ack []).phy.listening = true ∧
      (bound 8#8 .awaitingIndex 0#8 .ack []).slv.evtPending = false) ∧
    ready.slv.sEn = false ∧ ready.phy.listening = false ∧ (latched 0#8 0#8 ready).slv.evtPending = true := by decide

theorem witness_HostReadReturnsTheRegister :
    NoStrictFaultRecorded ready ∧ NoStrictFaultRecorded (bound 8#8 .awaitingIndex 0#8 .ack [(255, 1#8)]) ∧
    ForegroundReady ready ∧ ready.mst.resultValid = false ∧ ready.slv.capWritten = false ∧ ready.array.read 0 = none ∧
    ready.inbuf.read 0 = none ∧
    ForegroundReady (bound 8#8 .awaitingIndex 0#8 .ack [(255, 1#8)]) ∧
    (bound 8#8 .awaitingIndex 0#8 .ack [(255, 1#8)]).slv.capWritten = true ∧
    (bound 8#8 .awaitingIndex 0#8 .ack [(255, 1#8)]).array.read (255#8 : Byte).toNat = some 1#8 ∧
    { ready with inbuf := [(0, 2#8)] }.inbuf.read (0#8 : Byte).toNat = some 2#8 ∧
    { ready.mst with resultValid := true }.resultValid = true := by decide

theorem witness_HostWriteWritesOneLocation :
    NoStrictFaultRecorded ready ∧
    ForegroundReady ready := by decide

/-- A step of a running command, from a state that meets the invariant. -/
theorem witness_EveryStepKeepsTheInvariant :
    InvUnlessFault starting ∧
    ∃ t, step { starting with script := [.word ⟨.status, 0x08#32, 0#16⟩] } = .next t ∧ NoStrictFaultRecorded t :=
  ⟨fun _ => starting_inv, _, rfl, by decide⟩

theorem witness_FaultBitsAreSticky :
    (∃ t, step { ready with slv := { ready.slv with sfault := 0b101#3 } } = .next t) ∧
    ({ ready.slv with sfault := 0b101#3 }.sfault.getLsbD 2 = true) ∧
    (isRow .cli = false ∧ ∃ t, exec .cli ready = .next t) :=
  ⟨⟨_, rfl⟩, rfl, rfl, _, rfl⟩

/-- Instructions that change `CAP` and `EVT_IE`. -/
theorem witness_CapacityAndDeliveryEnableHaveOneWriter :
    after (exec .sStart ready) (fun t => decide (t.slv.cap ≠ ready.slv.cap ∧ NoStrictFaultRecorded t)) = true ∧
    after (exec .cli ready) (fun t => decide (t.slv.evtIe ≠ ready.slv.evtIe ∧ NoStrictFaultRecorded t)) = true := by decide

/-- An answer, a command and a host write of `CMD` that write `RESULT`, and a poll that does. -/
theorem witness_ResultIsWrittenOnlyOnReturn :
    after (exec (.statusStBusError 0#8) starting) (fun t => decide (t.mst.resultValid = true ∧ NoStrictFaultRecorded t)) = true ∧
    after (exec (.mWrite .none) (lengths 0#8 0#8)) (fun t => decide (t.mst.resultValid = true ∧ NoStrictFaultRecorded t)) = true ∧
    after (exec (.hostWr .cmd 0x05#32) (lengths 0#8 0#8)) (fun t => decide (t.mst.resultValid = true ∧ NoStrictFaultRecorded t)) = true ∧
    decodeCmd ((0x05#32 : HostWord).setWidth 8) = .mTransfer ∧
    NoStrictFaultRecorded starting ∧ (poll { starting with waitLimit := some 1 }).mst.resultValid = true := by decide

theorem witness_OnlyAnAnswerMovesAWaitingCommand :
    Inv starting ∧ starting.mst.mState ≠ .idle ∧ statusRow (.hpiRearm .ack false) = none ∧ isRow .evtStSrStop = true :=
  ⟨starting_inv, by decide, rfl, rfl⟩

theorem witness_MasterFrame :
    (∃ t, exec (.statusStMrDataAck 0x11#8) receiving = .next t ∧ NoStrictFaultRecorded t) ∧
    statusRow (.statusStMrDataAck 0x11#8) ≠ none ∧ (∃ t, exec .mStop ready = .next t ∧ NoStrictFaultRecorded t) :=
  ⟨⟨_, rfl, by decide⟩, by decide, _, rfl, by decide⟩

/-- `ready`, with `A_ADDR` not written (V-Y18). -/
def noAddress : State := { ready with opnd := { ready.opnd with addrWritten := false } }

/-- The bytes of `ready`. -/
def readyBytes : Nat → Byte
  | 0 => 0x10#8
  | _ => 0x20#8

/-- An opening framing, and one that does not open with `A_ADDR` not written. -/
theorem witness_AcknowledgedWriteSendsEveryByteInOrder :
    NoStrictFaultRecorded ready ∧ NoStrictFaultRecorded noAddress ∧
    MasterReady ready ∧ ready.opnd.addrWritten = true ∧ ready.opnd.lenWritten = true ∧ Framing.startAndStop.opens = true ∧
    [1#8, 2#8].length = ready.opnd.aLen.toNat ∧
    (∀ k, k < ready.opnd.aLen.toNat → ready.outbuf.read k = some (readyBytes k)) ∧
    MasterReady noAddress ∧ Framing.stop.opens = false ∧ noAddress.opnd.lenWritten = true ∧
    [1#8, 2#8].length = noAddress.opnd.aLen.toNat ∧
    (∀ k, k < noAddress.opnd.aLen.toNat → noAddress.outbuf.read k = some (readyBytes k)) := by decide

/-- The first byte, and the last byte, as the one rejected; with and without an opening framing. -/
theorem witness_RejectedDataByteLeavesTheBusHeld :
    NoStrictFaultRecorded ready ∧ NoStrictFaultRecorded noAddress ∧
    MasterReady ready ∧ ready.opnd.addrWritten = true ∧ ready.opnd.lenWritten = true ∧ Framing.start.opens = true ∧
    (0x30#8 : Byte) ≠ 0x28#8 ∧ ([] : List Byte).length < ready.opnd.aLen.toNat ∧ [1#8].length < ready.opnd.aLen.toNat ∧
    (∀ k, k < ready.opnd.aLen.toNat → ready.outbuf.read k = some (readyBytes k)) ∧
    MasterReady noAddress ∧ Framing.none.opens = false ∧ noAddress.opnd.lenWritten = true ∧
    [1#8].length < noAddress.opnd.aLen.toNat ∧
    (∀ k, k < noAddress.opnd.aLen.toNat → noAddress.outbuf.read k = some (readyBytes k)) := by decide

theorem witness_ReadAcknowledgesAllButTheLastByte :
    NoStrictFaultRecorded ready ∧ NoStrictFaultRecorded noAddress ∧
    MasterReady ready ∧ ready.opnd.addrWritten = true ∧ ready.opnd.lenWritten = true ∧ Framing.start.opens = true ∧
    [(0x50#8, 1#8), (0xF8#8, 2#8)].length = ready.opnd.aLen.toNat ∧ 0 < ready.opnd.aLen.toNat ∧
    MasterReady noAddress ∧ Framing.none.opens = false ∧ noAddress.opnd.lenWritten = true ∧
    [(0x50#8, 1#8), (0xF8#8, 2#8)].length = noAddress.opnd.aLen.toNat := by decide

/-- A transfer of length 0 both ways returns at once; the general premises at `ready`. -/
theorem witness_TransferEqualsTheSimplerCommands :
    NoStrictFaultRecorded ready ∧ MasterReady ready ∧ ready.opnd.addrWritten = true ∧ ready.opnd.lenWritten = true ∧ ready.opnd.ilenWritten = true ∧
    (∀ k, k < ready.opnd.aLen.toNat → ready.outbuf.read k ≠ none) ∧
    ∃ v, exec .mTransfer ready = .next v ∧
      (drive [(0x08#8, 0#8), (0x20#8, 0#8)] v).1.mst.mState = .idle :=
  ⟨by decide, by decide, by decide, by decide, by decide, by decide, _, rfl, by decide⟩

/-- The largest offset the statement admits, with the two bytes that fill the file, and with one that does not. -/
theorem witness_WriteSessionStaysInsideTheFile :
    NoStrictFaultRecorded (bound 8#8 .awaitingIndex 0#8 .ack []) ∧
    (bound 8#8 .awaitingIndex 0#8 .ack []).slv.sEn = true ∧ (bound 8#8 .awaitingIndex 0#8 .ack []).slv.evtIe = true ∧
    (bound 8#8 .awaitingIndex 0#8 .ack []).slv.evtPending = false ∧
    (bound 8#8 .awaitingIndex 0#8 .ack []).phy.listening = true ∧
    (6#8 : Byte).toNat + 2 ≤ (bound 8#8 .awaitingIndex 0#8 .ack []).slv.cap.toNat ∧
    [1#8, 2#8].length = (bound 8#8 .awaitingIndex 0#8 .ack []).slv.cap.toNat - (6#8 : Byte).toNat ∧
    [1#8].length < (bound 8#8 .awaitingIndex 0#8 .ack []).slv.cap.toNat - (6#8 : Byte).toNat := by decide

/-- The bytes of a two-byte file. -/
def fileBytes : Nat → Byte
  | 0 => 0x44#8
  | _ => 0x55#8

theorem witness_ReadSessionSuppliesTheFileInOrder :
    NoStrictFaultRecorded (bound 6#8 .awaitingIndex 4#8 .ack [(4, 0x44#8), (5, 0x55#8)]) ∧
    (bound 6#8 .awaitingIndex 4#8 .ack [(4, 0x44#8), (5, 0x55#8)]).slv.sEn = true ∧
    (bound 6#8 .awaitingIndex 4#8 .ack [(4, 0x44#8), (5, 0x55#8)]).slv.evtIe = true ∧
    (bound 6#8 .awaitingIndex 4#8 .ack [(4, 0x44#8), (5, 0x55#8)]).slv.evtPending = false ∧
    (bound 6#8 .awaitingIndex 4#8 .ack [(4, 0x44#8), (5, 0x55#8)]).phy.listening = true ∧ 0 < 2 ∧
    (bound 6#8 .awaitingIndex 4#8 .ack [(4, 0x44#8), (5, 0x55#8)]).slv.index.toNat + 2 ≤
      (bound 6#8 .awaitingIndex 4#8 .ack [(4, 0x44#8), (5, 0x55#8)]).slv.cap.toNat ∧
    (∀ k, k < 2 → (bound 6#8 .awaitingIndex 4#8 .ack [(4, 0x44#8), (5, 0x55#8)]).array.read
      ((bound 6#8 .awaitingIndex 4#8 .ack [(4, 0x44#8), (5, 0x55#8)]).slv.index.toNat + k) = some (fileBytes k)) := by decide

/-- The other side: a read that ends before the last cell. -/
theorem witness_ReadSessionSuppliesTheFileInOrder_inside :
    NoStrictFaultRecorded (bound 8#8 .awaitingIndex 4#8 .ack [(4, 0x44#8), (5, 0x55#8)]) ∧
    (bound 8#8 .awaitingIndex 4#8 .ack [(4, 0x44#8), (5, 0x55#8)]).slv.sEn = true ∧
    (bound 8#8 .awaitingIndex 4#8 .ack [(4, 0x44#8), (5, 0x55#8)]).slv.evtIe = true ∧
    (bound 8#8 .awaitingIndex 4#8 .ack [(4, 0x44#8), (5, 0x55#8)]).slv.evtPending = false ∧
    (bound 8#8 .awaitingIndex 4#8 .ack [(4, 0x44#8), (5, 0x55#8)]).phy.listening = true ∧
    (bound 8#8 .awaitingIndex 4#8 .ack [(4, 0x44#8), (5, 0x55#8)]).slv.index.toNat + 2 <
      (bound 8#8 .awaitingIndex 4#8 .ack [(4, 0x44#8), (5, 0x55#8)]).slv.cap.toNat ∧
    (∀ k, k < 2 → (bound 8#8 .awaitingIndex 4#8 .ack [(4, 0x44#8), (5, 0x55#8)]).array.read
      ((bound 8#8 .awaitingIndex 4#8 .ack [(4, 0x44#8), (5, 0x55#8)]).slv.index.toNat + k) = some (fileBytes k)) := by decide

/-- A row that stores in the last cell and leaves no fault, one that stores beyond it and does not, the recovery row, which
leaves `PROTO` only, and a run of one step. -/
theorem witness_FaultFreeRunsStayInsideTheFile :
    after (exec .evtStSrDataAckReceivingData (latched 0x80#8 1#8 (bound 8#8 .receivingData 7#8 .ack [])))
      (fun t => decide (NoStrictFaultRecorded t ∧ NoFaultRecorded t)) = true ∧
    after (exec .evtStSrDataAckReceivingData (latched 0x80#8 1#8 (bound 8#8 .receivingData 8#8 .ack [])))
      (fun t => decide (¬ NoStrictFaultRecorded t ∧ ¬ NoFaultRecorded t)) = true ∧
    after (exec .evtStBusError (latched 0x00#8 0#8 (bound 8#8 .receivingData 4#8 .ack [])))
      (fun t => decide (NoStrictFaultRecorded t ∧ ¬ NoFaultRecorded t)) = true ∧
    NoFaultRecorded (latched 0x80#8 1#8 (bound 8#8 .receivingData 8#8 .ack [])) ∧
    after (Sys2Proof.core.run 1 { latched 0x80#8 1#8 (bound 8#8 .receivingData 7#8 .ack []) with script := [.deliver] })
      (fun t => decide (NoStrictFaultRecorded t ∧ NoFaultRecorded t)) = true := by decide

end Sys2Proof.Tests
end

section
/-! SUPPORT. The instruction a foreground step amounts to, and the completeness of the case split over instructions. -/

namespace Sys2Proof.Machine

/-! ### The command behind a host write of `CMD` -/

/-- A host write of `CMD` is the command its byte decodes to (R29, R103); every other instruction is itself. -/
def issued (i : Instr) : Instr :=
  match i with
  | .hostWr .cmd v => decodeCmd (v.setWidth 8)
  | i => i

theorem issued_cases (i : Instr) :
    issued i = i ∨ ∃ v, i = .hostWr .cmd v ∧ issued i = decodeCmd (v.setWidth 8) := by
  cases i with
  | hostWr x v =>
    cases x with
    | cmd => exact .inr ⟨v, rfl, rfl⟩
    | _ => exact .inl rfl
  | _ => exact .inl rfl

/-- The nine kinds of command a byte can decode to (R103, R107). -/
inductive IsCommand : Instr → Prop
  | cmdReserved (b : Byte) : IsCommand (.cmdReserved b)
  | configure : IsCommand .configure
  | mStart (d : Direction) : IsCommand (.mStart d)
  | mStop : IsCommand .mStop
  | mWrite (f : Framing) : IsCommand (.mWrite f)
  | mRead (f : Framing) : IsCommand (.mRead f)
  | mTransfer : IsCommand .mTransfer
  | sStart : IsCommand .sStart
  | sStop : IsCommand .sStop

theorem decodeCmd_isCommand (b : Byte) : IsCommand (decodeCmd b) :=
  iteInduction (fun _ => .cmdReserved b) fun _ => iteInduction (fun _ => .cmdReserved b) fun _ =>
  iteInduction (fun _ => .cmdReserved b) fun _ => iteInduction (fun _ => .configure) fun _ =>
  iteInduction (fun _ => .mStart _) fun _ => iteInduction (fun _ => .mStop) fun _ =>
  iteInduction (fun _ => .mWrite _) fun _ => iteInduction (fun _ => .mRead _) fun _ =>
  iteInduction (fun _ => .mTransfer) fun _ => iteInduction (fun _ => .sStart) fun _ => .sStop

theorem IsCommand.statusRow_eq_none {c : Instr} (h : IsCommand c) : statusRow c = none := by cases h <;> rfl

theorem IsCommand.isRow_eq_false {c : Instr} (h : IsCommand c) : isRow c = false := by cases h <;> rfl

theorem IsCommand.ne_hostWr {c : Instr} (h : IsCommand c) (x : WrTarget) (v : HostWord) : c ≠ .hostWr x v := by
  rintro rfl
  cases h

theorem issueCommand_eq_exec (b : Byte) (s : State) : issueCommand b s = exec (decodeCmd b) s := by
  have h := decodeCmd_isCommand b
  unfold issueCommand
  generalize decodeCmd b = c at h ⊢
  cases h <;> rfl

theorem statusRow_issued (i : Instr) : statusRow (issued i) = statusRow i := by
  rcases issued_cases i with h | ⟨v, rfl, h⟩ <;> rw [h]
  exact (decodeCmd_isCommand _).statusRow_eq_none

theorem isRow_issued (i : Instr) : isRow (issued i) = isRow i := by
  rcases issued_cases i with h | ⟨v, rfl, h⟩ <;> rw [h]
  exact (decodeCmd_isCommand _).isRow_eq_false

theorem issued_ne_hostCommand (i : Instr) (v : HostWord) : issued i ≠ .hostWr .cmd v := by
  rcases issued_cases i with h | ⟨w, rfl, h⟩
  · intro hv
    rw [h] at hv
    subst hv
    exact (decodeCmd_isCommand _).ne_hostWr _ _ h
  · rw [h]
    exact (decodeCmd_isCommand _).ne_hostWr _ _

theorem exec_issued {i : Instr} {s t : State} (h : exec i s = .next t) : exec (issued i) s = .next t := by
  rcases issued_cases i with hi | ⟨v, rfl, hi⟩ <;> rw [hi]
  · exact h
  · rw [← issueCommand_eq_exec]
    exact (guarded_next.mp h).2

/-! ### What every instruction can do -/

/-- A master command whose check has passed, by its immediate effect (R150 to R167). -/
inductive MasterEffect : Instr → State → State → Prop
  | mStart {s : State} (d : Direction) :
      MasterEffect (.mStart d) s
        (beginStart d { s with mst := { s.mst with mBusy := true, mOp := opMStart, mAddr := s.opnd.aAddr } })
  | mStop {s : State} : MasterEffect .mStop s (issueStop s)
  | writeOpens {s : State} (f : Framing) : MasterEffect (.mWrite f) s (beginStart .write (latchBody opMWrite f s))
  | writeBody {s t : State} (f : Framing) (h : sendFrom 0 (latchBody opMWrite f s) = .next t) :
      MasterEffect (.mWrite f) s t
  | readOpens {s : State} (f : Framing) (hlen : 0 < s.opnd.aLen.toNat) :
      MasterEffect (.mRead f) s (beginStart .read (latchBody opMRead f s))
  | readBody {s : State} (f : Framing) (hlen : 0 < s.opnd.aLen.toNat) :
      MasterEffect (.mRead f) s (receiveFrom 0 (latchBody opMRead f s))
  | transferReads {s : State} : MasterEffect .mTransfer s (readPhase (latchTransfer s))
  | transferWrites {s : State} :
      MasterEffect .mTransfer s
        (beginStart .write
          { latchTransfer s with mst := { (latchTransfer s).mst with mRan := true, mCnt := 0#8 } })

/-- Everything an instruction other than a host write of `CMD` can have done when it answers a next state. -/
inductive Effect : Instr → State → State → Prop
  | answer {i : Instr} {s t : State} {code rx : Byte} (hi : statusRow i = some (code, rx))
      (h : completeStep code rx s = .next t) : Effect i s t
  | row {i : Instr} {s t : State} (hi : isRow i = true) (h : exec i s = .next t) : Effect i s t
  | master {i : Instr} {s t : State} (hready : MasterReady s) (h : MasterEffect i s t) : Effect i s t
  | configure {s : State} (hready : ForegroundReady s) (hoff : s.slv.sEn = false) :
      Effect .configure s
        { s with
          clk := { rate := s.opnd.aRate, pullups := s.opnd.aPullups, done := true }
          trace := .configureClock s.opnd.aRate s.opnd.aPullups :: s.trace }
  | sStart {s : State} (hready : ForegroundReady s) (hdone : s.clk.done = true) (hcap : 1 ≤ s.opnd.aCap.toNat) :
      Effect .sStart s
        (enableSlave s.opnd.aAddr
          { s with
            slv :=
              { s.slv with
                sAddr := s.opnd.aAddr, cap := s.opnd.aCap, capWritten := true, sPhase := .awaitingIndex
                ackNext := .ack, evtPending := false, sEn := true } })
  | sStop {s : State} (hready : ForegroundReady s) :
      Effect .sStop s
        { s with
          slv :=
            { s.slv with
              sEn := false, sPhase := .awaitingIndex, index := 0#8, evtPending := false, ackNext := .nack }
          phy := { s.phy with listening := false }
          trace := .disableSlave :: s.trace }
  | evtIe {i : Instr} {s : State} (hready : ForegroundReady s) (b : Bool)
      (hi : i = .cli ∨ i = .sei ∨ ∃ v, i = .hostWr .evtIe v) : Effect i s (writeEvtIe b s)
  | hpiConfigureClock {s : State} (hidle : s.mst.mState = .idle) : Effect .hpiConfigureClock s (configureClock s)
  | hpiIssueStart {s : State} (hidle : s.mst.mState = .idle) : Effect .hpiIssueStart s (issueStart s)
  | hpiIssueStop {s : State} (hidle : s.mst.mState = .idle) : Effect .hpiIssueStop s (issueStop s)
  | hpiTransmitByte {s : State} (hidle : s.mst.mState = .idle) (b : Byte) :
      Effect (.hpiTransmitByte b) s (transmitByte b s)
  | hpiReceiveByte {s : State} (hidle : s.mst.mState = .idle) (p : AckPolicy) :
      Effect (.hpiReceiveByte p) s (receiveByte p s)
  | hpiCurrentStatus {s : State} (hidle : s.mst.mState = .idle) : Effect .hpiCurrentStatus s (currentStatus s)
  | hpiEnableSlave {s : State} (hidle : s.mst.mState = .idle) (a : BusAddr) :
      Effect (.hpiEnableSlave a) s (enableSlave a s)
  | hpiDisableSlave {s : State} (hidle : s.mst.mState = .idle) : Effect .hpiDisableSlave s (disableSlave s)
  | hpiRearm {s : State} (hidle : s.mst.mState = .idle) (p : AckPolicy) (stop : Bool) :
      Effect (.hpiRearm p stop) s (rearm p stop s)
  | raiseEvent {s : State} (hallowed : eventAllowed s = true) (status rx : Byte) :
      Effect (.phyRaiseEvent status rx) s
        { s with slv := { s.slv with evtStatus := status, evtRx := rx, evtPending := true } }
  | hostRd {s : State} (hready : ForegroundReady s) (x : RdTarget) {v : HostWord} (hv : hostValue x s = .ok v) :
      Effect (.hostRd x) s { s with hostData := v }
  | hostWrOperand {s : State} (hready : ForegroundReady s) (x : WrTarget) (v : HostWord) :
      Effect (.hostWr x v) s { s with opnd := writeOperand x v s.opnd }
  | hostWrIndex {s : State} (hready : ForegroundReady s) (v : HostWord) :
      Effect (.hostWr .index v) s { s with slv := { s.slv with index := v.setWidth 8 } }
  | hostWrArray {s : State} (hready : ForegroundReady s) (k : Byte) (v : HostWord) :
      Effect (.hostWr (.array k) v) s { s with array := s.array.write k.toNat (v.setWidth 8) }
  | hostWrOutbuf {s : State} (hready : ForegroundReady s) (k : Byte) (v : HostWord) :
      Effect (.hostWr (.outbuf k) v) s { s with outbuf := s.outbuf.write k.toNat (v.setWidth 8) }

theorem guarded_next_iff {c : Option Refusal} {u t : State} : guarded c (.next u) = .next t ↔ c = none ∧ t = u := by
  rw [guarded_next, Host.Outcome.next.injEq, eq_comm (a := u)]

theorem execMStart_effect {d : Direction} {s t : State} (h : execMStart d s = .next t) :
    MasterReady s ∧ MasterEffect (.mStart d) s t := by
  obtain ⟨hc, rfl⟩ := guarded_next_iff.mp h
  exact ⟨(masterCheck_none.mp hc).1, .mStart d⟩

theorem execMStop_effect {s t : State} (h : execMStop s = .next t) : MasterReady s ∧ MasterEffect .mStop s t := by
  obtain ⟨hc, rfl⟩ := guarded_next_iff.mp h
  exact ⟨(masterCheck_none.mp hc).1, .mStop⟩

theorem execMWrite_effect {f : Framing} {s t : State} (h : execMWrite f s = .next t) :
    MasterReady s ∧ MasterEffect (.mWrite f) s t := by
  obtain ⟨hc, ht⟩ := guarded_next.mp h
  refine ⟨(masterCheck_none.mp hc).1, ?_⟩
  split_ifs at ht
  · cases ht
    exact .writeOpens f
  · exact .writeBody f ht

theorem execMRead_effect {f : Framing} {s t : State} (h : execMRead f s = .next t) :
    MasterReady s ∧ MasterEffect (.mRead f) s t := by
  obtain ⟨hc, ht⟩ := guarded_next.mp h
  refine ⟨(masterCheck_none.mp hc).1, ?_⟩
  split_ifs at ht with hlen hopens
  · cases ht
    exact .readOpens f (by omega)
  · cases ht
    exact .readBody f (by omega)

theorem execMTransfer_effect {s t : State} (h : execMTransfer s = .next t) :
    MasterReady s ∧ MasterEffect .mTransfer s t := by
  obtain ⟨hc, ht⟩ := guarded_next.mp h
  refine ⟨(masterCheck_none.mp hc).1, ?_⟩
  split_ifs at ht
  · cases ht
    exact .transferReads
  · cases ht
    exact .transferWrites

theorem execConfigure_effect {s t : State} (h : execConfigure s = .next t) : Effect .configure s t := by
  obtain ⟨hc, ht⟩ := guarded_next.mp h
  split_ifs at ht with hoff
  cases ht
  exact .configure (foregroundCheck_none.mp hc) (by simpa using hoff)

theorem execSStart_effect {s t : State} (h : execSStart s = .next t) : Effect .sStart s t := by
  obtain ⟨hc, ht⟩ := guarded_next.mp h
  split_ifs at ht with hdone hopnd hcap
  cases ht
  exact .sStart (foregroundCheck_none.mp hc) (by simpa using hdone) (by omega)

theorem execSStop_effect {s t : State} (h : execSStop s = .next t) : Effect .sStop s t := by
  obtain ⟨hc, rfl⟩ := guarded_next_iff.mp h
  exact .sStop (foregroundCheck_none.mp hc)

theorem execHostRd_effect {x : RdTarget} {s t : State} (h : execHostRd x s = .next t) : Effect (.hostRd x) s t := by
  obtain ⟨hc, ht⟩ := guarded_next.mp h
  split at ht
  · next v hv =>
    cases ht
    exact .hostRd (foregroundCheck_none.mp hc) x hv
  · cases ht

theorem execHostWr_effect {x : WrTarget} {v : HostWord} {s t : State} (h : execHostWr x v s = .next t)
    (hx : x ≠ .cmd) : Effect (.hostWr x v) s t := by
  obtain ⟨hc, ht⟩ := guarded_next.mp h
  have hready := foregroundCheck_none.mp hc
  cases x with
  | cmd => exact absurd rfl hx
  | evtIe => cases ht; exact .evtIe hready _ (.inr (.inr ⟨v, rfl⟩))
  | index => cases ht; exact .hostWrIndex hready v
  | array k => cases ht; exact .hostWrArray hready k v
  | outbuf k => cases ht; exact .hostWrOutbuf hready k v
  | _ => cases ht; exact .hostWrOperand hready _ v

/-- An instruction that answers a next state has done what `Effect` says. -/
theorem exec_effect_of_ne_hostCommand {i : Instr} {s t : State} (h : exec i s = .next t)
    (hcmd : ∀ v, i ≠ .hostWr .cmd v) : Effect i s t := by
  cases hs : statusRow i with
  | some p => exact .answer hs (exec_statusRow hs s ▸ h)
  | none =>
    by_cases hr : isRow i = true
    · exact .row hr h
    cases i with
    | configure => exact execConfigure_effect h
    | mStart d => exact (execMStart_effect h).elim .master
    | mStop => exact (execMStop_effect h).elim .master
    | mWrite f => exact (execMWrite_effect h).elim .master
    | mRead f => exact (execMRead_effect h).elim .master
    | mTransfer => exact (execMTransfer_effect h).elim .master
    | sStart => exact execSStart_effect h
    | sStop => exact execSStop_effect h
    | cmdReserved b => cases h
    | hpiConfigureClock =>
      obtain ⟨hc, rfl⟩ := guarded_next_iff.mp h
      exact .hpiConfigureClock (primitiveCheck_none.mp hc).1
    | hpiIssueStart =>
      obtain ⟨hc, rfl⟩ := guarded_next_iff.mp h
      exact .hpiIssueStart (primitiveCheck_none.mp hc).1
    | hpiIssueStop =>
      obtain ⟨hc, rfl⟩ := guarded_next_iff.mp h
      exact .hpiIssueStop (primitiveCheck_none.mp hc).1
    | hpiTransmitByte b =>
      obtain ⟨hc, rfl⟩ := guarded_next_iff.mp h
      exact .hpiTransmitByte (primitiveCheck_none.mp hc).1 b
    | hpiReceiveByte p =>
      obtain ⟨hc, rfl⟩ := guarded_next_iff.mp h
      exact .hpiReceiveByte (primitiveCheck_none.mp hc).1 p
    | hpiCurrentStatus =>
      obtain ⟨hc, ht⟩ := guarded_next.mp h
      split_ifs at ht
      cases ht
      exact .hpiCurrentStatus (standAloneCheck_none.mp hc)
    | hpiEnableSlave a =>
      obtain ⟨hc, rfl⟩ := guarded_next_iff.mp h
      exact .hpiEnableSlave (standAloneCheck_none.mp hc) a
    | hpiDisableSlave =>
      obtain ⟨hc, rfl⟩ := guarded_next_iff.mp h
      exact .hpiDisableSlave (standAloneCheck_none.mp hc)
    | hpiRearm p stop =>
      obtain ⟨hc, rfl⟩ := guarded_next_iff.mp h
      exact .hpiRearm (standAloneCheck_none.mp hc) p stop
    | phyRaiseEvent status rx =>
      simp only [exec, execPhyRaiseEvent] at h
      split_ifs at h with hallowed
      cases h
      exact .raiseEvent hallowed status rx
    | cli =>
      obtain ⟨hc, rfl⟩ := guarded_next_iff.mp h
      exact .evtIe (foregroundCheck_none.mp hc) false (.inl rfl)
    | sei =>
      obtain ⟨hc, rfl⟩ := guarded_next_iff.mp h
      exact .evtIe (foregroundCheck_none.mp hc) true (.inr (.inl rfl))
    | hostRd x => exact execHostRd_effect h
    | hostWr x v => exact execHostWr_effect h fun hx => hcmd v (hx ▸ rfl)
    | _ => simp [statusRow, isRow] at hs hr

theorem exec_effect {i : Instr} {s t : State} (h : exec i s = .next t) : Effect (issued i) s t :=
  exec_effect_of_ne_hostCommand (exec_issued h) (issued_ne_hostCommand i)

end Sys2Proof.Machine
end

section
/-! SUPPORT. What the master's steps and the handler's rows leave unchanged, and what they record. -/

namespace Sys2Proof.Machine

/-! ### The outcomes of the sequencer's operations -/

theorem sendFrom_next {i : Nat} {s t : State} (h : sendFrom i s = .next t) :
    (∃ b, i < s.mst.mLen.toNat ∧ s.outbuf.read i = some b ∧
        t = { transmitByte b s with
          mst := { (transmitByte b s).mst with mCnt := BitVec.ofNat 8 i, mState := .txWait } }) ∨
      t = writeDone s := by
  rcases sendFrom_cases i s with ⟨b, hi, hb, e⟩ | ⟨-, -, e⟩ | ⟨-, e⟩ <;> rw [e] at h <;> cases h
  · exact .inl ⟨b, hi, hb, rfl⟩
  · exact .inr rfl

/-- R150, R167: an answer to the address byte fails, ends `M_START`, or begins the body of its direction. -/
theorem addressCompleted_next {code : Byte} {s t : State} (h : addressCompleted code s = .next t) :
    t = raiseFailure .addressRejected (issueStop s) ∨ t = returnResult .ok s ∨
      (s.mst.mOp ≠ opMStart ∧ s.mst.mDir = .write ∧ sendFrom 0 s = .next t) ∨
      (s.mst.mOp ≠ opMStart ∧ s.mst.mDir = .read ∧ t = receiveFrom 0 s) := by
  unfold addressCompleted at h
  split_ifs at h with hack hop
  · cases h
    exact .inr (.inl rfl)
  · cases hd : s.mst.mDir <;> simp only [hd] at h
    · exact .inr (.inr (.inl ⟨hop, rfl, h⟩))
    · cases h
      exact .inr (.inr (.inr ⟨hop, rfl, rfl⟩))
  · cases h
    exact .inl rfl

/-- R157, R167: an answer to a data byte fails or goes on with the body. -/
theorem sendCompleted_next {code : Byte} {s t : State} (h : sendCompleted code s = .next t) :
    t = raiseFailure .dataRejected s ∨ sendFrom (s.mst.mCnt.toNat + 1) s = .next t := by
  unfold sendCompleted at h
  split_ifs at h
  · exact .inr h
  · cases h
    exact .inl rfl

/-- R160, R167: a received byte is stored, then the next one is asked for or the body ends. -/
theorem receiveCompleted_cases (rx : Byte) (s : State) :
    (s.mst.mCnt.toNat + 1 < readLen s.mst ∧
        receiveCompleted rx s =
          receiveFrom (s.mst.mCnt.toNat + 1) { s with inbuf := s.inbuf.write s.mst.mCnt.toNat rx }) ∨
      receiveCompleted rx s = readDone { s with inbuf := s.inbuf.write s.mst.mCnt.toNat rx } := by
  unfold receiveCompleted
  dsimp only
  split_ifs with h
  · exact .inl ⟨h, rfl⟩
  · exact .inr rfl

theorem startCompleted_cases (code : Byte) (s : State) :
    startCompleted code s = sendAddress (currentStatus s) ∨
      startCompleted code s = raiseFailure .startFailed (currentStatus s) := by
  unfold startCompleted
  split_ifs
  · exact .inl rfl
  · exact .inr rfl

/-! ### The frame of the master (R9, R20, R61) -/

/-- What every step of the master leaves as it was. -/
structure KeptByMaster (s t : State) : Prop where
  slv : t.slv = s.slv
  array : t.array = s.array
  outbuf : t.outbuf = s.outbuf
  opnd : t.opnd = s.opnd
  clk : t.clk = s.clk
  hostData : t.hostData = s.hostData
  draws : t.draws = s.draws

theorem KeptByMaster.trans {s u t : State} (h : KeptByMaster s u) (h' : KeptByMaster u t) : KeptByMaster s t :=
  ⟨h'.slv.trans h.slv, h'.array.trans h.array, h'.outbuf.trans h.outbuf, h'.opnd.trans h.opnd, h'.clk.trans h.clk,
    h'.hostData.trans h.hostData, h'.draws.trans h.draws⟩

theorem recordAnswer_kept (b : BusStep) (code rx : Byte) (s : State) : KeptByMaster s (recordAnswer b code rx s) := by
  constructor <;> rfl

theorem latchBody_kept (op : BitVec 3) (f : Framing) (s : State) : KeptByMaster s (latchBody op f s) := by
  constructor <;> rfl

theorem sendFrom_kept {i : Nat} {s t : State} (h : sendFrom i s = .next t) : KeptByMaster s t := by
  rcases sendFrom_next h with ⟨b, -, -, rfl⟩ | rfl <;> constructor <;> simp

theorem sendFrom_inbuf {i : Nat} {s t : State} (h : sendFrom i s = .next t) : t.inbuf = s.inbuf := by
  rcases sendFrom_next h with ⟨b, -, -, rfl⟩ | rfl <;> simp

theorem addressCompleted_kept {code : Byte} {s t : State} (h : addressCompleted code s = .next t) :
    KeptByMaster s t := by
  rcases addressCompleted_next h with rfl | rfl | ⟨-, -, h⟩ | ⟨-, -, rfl⟩
  · constructor <;> simp
  · constructor <;> simp
  · exact sendFrom_kept h
  · constructor <;> simp

theorem addressCompleted_inbuf {code : Byte} {s t : State} (h : addressCompleted code s = .next t) :
    t.inbuf = s.inbuf := by
  rcases addressCompleted_next h with rfl | rfl | ⟨-, -, h⟩ | ⟨-, -, rfl⟩
  · simp
  · simp
  · exact sendFrom_inbuf h
  · simp

theorem sendCompleted_kept {code : Byte} {s t : State} (h : sendCompleted code s = .next t) : KeptByMaster s t := by
  rcases sendCompleted_next h with rfl | h
  · constructor <;> simp
  · exact sendFrom_kept h

theorem sendCompleted_inbuf {code : Byte} {s t : State} (h : sendCompleted code s = .next t) : t.inbuf = s.inbuf := by
  rcases sendCompleted_next h with rfl | h
  · simp
  · exact sendFrom_inbuf h

theorem receiveCompleted_inbuf (rx : Byte) (s : State) :
    (receiveCompleted rx s).inbuf = s.inbuf.write s.mst.mCnt.toNat rx := by
  rcases receiveCompleted_cases rx s with ⟨-, h⟩ | h <;> rw [h] <;> simp

theorem completeStep_kept {code rx : Byte} {s t : State} (h : completeStep code rx s = .next t) :
    KeptByMaster s t := by
  obtain ⟨b, -, ⟨-, rfl⟩ | ⟨-, rfl⟩ | ⟨-, h⟩ | ⟨-, h⟩ | ⟨-, rfl⟩⟩ := completeStep_next h
  · constructor <;> simp
  · constructor <;> simp
  · exact (recordAnswer_kept b code rx s).trans (addressCompleted_kept h)
  · exact (recordAnswer_kept b code rx s).trans (sendCompleted_kept h)
  · constructor <;> simp

/-- An answer writes `INBUF` only while a byte is received, and only at `M_CNT` (R160). -/
theorem completeStep_inbuf {code rx : Byte} {s t : State} (h : completeStep code rx s = .next t) :
    t.inbuf = if s.mst.mState = .rxWait then s.inbuf.write s.mst.mCnt.toNat rx else s.inbuf := by
  obtain ⟨b, -, ⟨hm, rfl⟩ | ⟨hm, rfl⟩ | ⟨hm, h⟩ | ⟨hm, h⟩ | ⟨hm, rfl⟩⟩ := completeStep_next h
  · simp [hm]
  · simp [hm]
  · simp [hm, addressCompleted_inbuf h]
  · simp [hm, sendCompleted_inbuf h]
  · simp [hm, receiveCompleted_inbuf]

/-- An answer to a primitive issued by itself leaves the sequencer as it was. -/
theorem completeStep_idle {code rx : Byte} {s t : State} (h : completeStep code rx s = .next t)
    (hidle : s.mst.mState = .idle) : t.mst = s.mst := by
  obtain ⟨b, -, ⟨-, rfl⟩ | ⟨hm, -⟩ | ⟨hm, -⟩ | ⟨hm, -⟩ | ⟨hm, -⟩⟩ := completeStep_next h
  · rfl
  all_goals simp [hidle] at hm

theorem MasterEffect.kept {i : Instr} {s t : State} (h : MasterEffect i s t) : KeptByMaster s t := by
  cases h with
  | writeBody f h => exact (latchBody_kept opMWrite f s).trans (sendFrom_kept h)
  | _ => constructor <;> simp

theorem MasterEffect.inbuf {i : Instr} {s t : State} (h : MasterEffect i s t) : t.inbuf = s.inbuf := by
  cases h with
  | writeBody f h => exact (sendFrom_inbuf h).trans (latchBody_inbuf s opMWrite f)
  | _ => simp

/-! ### Where `RESULT` is written (R24, R168) -/

/-- `RESULT` and `RESULT_VALID` are what they were. -/
def ResultKept (s t : State) : Prop := t.mst.result = s.mst.result ∧ t.mst.resultValid = s.mst.resultValid

/-- A command has returned its result, which leaves the sequencer idle (R150). -/
def Returned (t : State) : Prop := t.mst.resultValid = true ∧ t.mst.mBusy = false ∧ t.mst.mState = .idle

theorem returnResult_returned (r : CmdResult) (s : State) : Returned (returnResult r s) := ⟨rfl, rfl, rfl⟩

theorem raiseFailure_returned (c : Cause) (s : State) : Returned (raiseFailure c s) := ⟨rfl, rfl, rfl⟩

theorem readDone_returned (s : State) : Returned (readDone s) := by
  unfold readDone finishTransfer
  split_ifs <;> exact returnResult_returned _ _

theorem readPhase_result (s : State) : ResultKept s (readPhase s) ∨ Returned (readPhase s) := by
  unfold readPhase finishTransfer
  split_ifs
  · exact .inr (returnResult_returned _ _)
  · exact .inl ⟨rfl, rfl⟩

theorem writeDone_result (s : State) : ResultKept s (writeDone s) ∨ Returned (writeDone s) := by
  unfold writeDone
  split_ifs
  · exact readPhase_result s
  · exact .inr (returnResult_returned _ _)

theorem sendFrom_result {i : Nat} {s t : State} (h : sendFrom i s = .next t) : ResultKept s t ∨ Returned t := by
  rcases sendFrom_next h with ⟨b, -, -, rfl⟩ | rfl
  · exact .inl ⟨rfl, rfl⟩
  · exact writeDone_result s

theorem addressCompleted_result {code : Byte} {s t : State} (h : addressCompleted code s = .next t) :
    ResultKept s t ∨ Returned t := by
  rcases addressCompleted_next h with rfl | rfl | ⟨-, -, h⟩ | ⟨-, -, rfl⟩
  · exact .inr (raiseFailure_returned _ _)
  · exact .inr (returnResult_returned _ _)
  · exact sendFrom_result h
  · exact .inl ⟨rfl, rfl⟩

theorem sendCompleted_result {code : Byte} {s t : State} (h : sendCompleted code s = .next t) :
    ResultKept s t ∨ Returned t := by
  rcases sendCompleted_next h with rfl | h
  · exact .inr (raiseFailure_returned _ _)
  · exact sendFrom_result h

theorem completeStep_result {code rx : Byte} {s t : State} (h : completeStep code rx s = .next t) :
    ResultKept s t ∨ (Returned t ∧ s.mst.mState ≠ .idle) := by
  by_cases hidle : s.mst.mState = .idle
  · exact .inl (by simp [ResultKept, completeStep_idle h hidle])
  refine Or.imp_right (⟨·, hidle⟩) ?_
  obtain ⟨b, -, ⟨-, rfl⟩ | ⟨-, rfl⟩ | ⟨-, h⟩ | ⟨-, h⟩ | ⟨-, rfl⟩⟩ := completeStep_next h
  · exact .inl ⟨rfl, rfl⟩
  · rcases startCompleted_cases code (recordAnswer b code rx s) with e | e <;> rw [e]
    · exact .inl ⟨rfl, rfl⟩
    · exact .inr (raiseFailure_returned _ _)
  · exact (addressCompleted_result h).imp_left id
  · exact (sendCompleted_result h).imp_left id
  · rcases receiveCompleted_cases rx (recordAnswer b code rx s) with ⟨-, e⟩ | e <;> rw [e]
    · exact .inl ⟨rfl, rfl⟩
    · exact .inr (readDone_returned _)

/-- Of the master's commands only `M_WRITE` and `M_TRANSFER` can return at once (R168). -/
theorem MasterEffect.result {i : Instr} {s t : State} (h : MasterEffect i s t) :
    ResultKept s t ∨ (Returned t ∧ ((∃ f, i = .mWrite f) ∨ i = .mTransfer)) := by
  cases h with
  | writeBody f h => exact (sendFrom_result h).imp_right (⟨·, .inl ⟨f, rfl⟩⟩)
  | transferReads => exact (readPhase_result (latchTransfer s)).imp_right (⟨·, .inr rfl⟩)
  | _ => exact .inl ⟨rfl, rfl⟩

/-! ### The handler's rows (R199) -/

theorem arrayStore_slv (i v : Byte) (s : State) :
    (arrayStore i v s).slv =
      { s.slv with sfault := s.slv.sfault ||| if i.toNat < s.slv.cap.toNat then 0#3 else oobSt } := by
  rcases arrayStore_cases i v s with ⟨h, e⟩ | ⟨h, e⟩ <;> rw [e]
  · simp [h]
  · simp [h.not_gt]

theorem loadTx_slv (i : Byte) (s : State) :
    ∃ b, (loadTx i s).slv =
      { s.slv with txData := b, sfault := s.slv.sfault ||| if i.toNat < s.slv.cap.toNat then 0#3 else oobLd } := by
  rcases loadTx_cases i s with ⟨b, h, -, e⟩ | ⟨h, -, e⟩ | ⟨h, e⟩ <;> rw [e]
  · exact ⟨b, by simp [h]⟩
  · exact ⟨_, by simp [h]; rfl⟩
  · exact ⟨_, by simp [h.not_gt]; rfl⟩

theorem arrayStore_array (i v : Byte) (s : State) :
    (arrayStore i v s).array = s.array ∨ (arrayStore i v s).array = s.array.write i.toNat v := by
  rcases arrayStore_cases i v s with ⟨-, e⟩ | ⟨-, e⟩ <;> rw [e]
  · exact .inr rfl
  · exact .inl rfl

/-- What a run of the handler leaves as it was, the cell it may write, and the event it has taken. -/
structure RowFrame (s t : State) : Prop where
  mst : t.mst = s.mst
  opnd : t.opnd = s.opnd
  clk : t.clk = s.clk
  outbuf : t.outbuf = s.outbuf
  inbuf : t.inbuf = s.inbuf
  phy : t.phy = s.phy
  sEn : t.slv.sEn = s.slv.sEn
  sAddr : t.slv.sAddr = s.slv.sAddr
  cap : t.slv.cap = s.slv.cap
  evtIe : t.slv.evtIe = s.slv.evtIe
  evtPending : t.slv.evtPending = false
  array : t.array = s.array ∨ t.array = s.array.write s.slv.index.toNat s.slv.evtRx

theorem exec_row_frame {i : Instr} {s t : State} (hi : isRow i = true) (h : exec i s = .next t) : RowFrame s t := by
  obtain ⟨f, hf, hrow⟩ := exec_isRow hi
  obtain ⟨-, rfl⟩ := guarded_next_iff.mp (hf s ▸ h)
  obtain ⟨b, hload⟩ := loadTx_slv s.slv.index s
  have hstore := arrayStore_array s.slv.index s.slv.evtRx s
  rcases hrow with rfl | rfl | rfl | rfl | rfl | rfl | rfl | rfl | rfl
  · constructor <;> simp [rowAddressMatched]
  · constructor <;> simp [rowTakeIndex]
  · constructor <;> simp [rowStore, arrayStore_slv, hstore]
  · constructor <;> simp [rowStoreLast, arrayStore_slv, hstore]
  · constructor <;> simp [rowNoCell]
  · constructor <;> simp [rowLoad, hload]
  · constructor <;> simp [rowEndRead]
  · constructor <;> simp [rowStop]
  · constructor <;> simp [rowRecover]

/-! ### The bits of `SFAULT` a row records (R28) -/

/-- What a store or a load at the cursor records: nothing in range, else the bit of its kind (R64, R65). -/
def accessFault (bit : BitVec 3) (s : State) : BitVec 3 := if s.slv.index.toNat < s.slv.cap.toNat then 0#3 else bit

@[simp] theorem rowAddressMatched_sfault (s : State) : (rowAddressMatched s).slv.sfault = s.slv.sfault := rfl
@[simp] theorem rowTakeIndex_sfault (s : State) : (rowTakeIndex s).slv.sfault = s.slv.sfault := rfl
@[simp] theorem rowEndRead_sfault (s : State) : (rowEndRead s).slv.sfault = s.slv.sfault := rfl
@[simp] theorem rowStop_sfault (s : State) : (rowStop s).slv.sfault = s.slv.sfault := rfl
@[simp] theorem rowNoCell_sfault (s : State) : (rowNoCell s).slv.sfault = s.slv.sfault ||| proto := rfl
@[simp] theorem rowRecover_sfault (s : State) : (rowRecover s).slv.sfault = s.slv.sfault ||| proto := rfl

@[simp] theorem rowStore_sfault (s : State) : (rowStore s).slv.sfault = s.slv.sfault ||| accessFault oobSt s := by
  simp [rowStore, arrayStore_slv, accessFault]

@[simp] theorem rowStoreLast_sfault (s : State) :
    (rowStoreLast s).slv.sfault = s.slv.sfault ||| accessFault oobSt s := by
  simp [rowStoreLast, arrayStore_slv, accessFault]

@[simp] theorem rowLoad_sfault (s : State) : (rowLoad s).slv.sfault = s.slv.sfault ||| accessFault oobLd s := by
  obtain ⟨b, hload⟩ := loadTx_slv s.slv.index s
  simp [rowLoad, hload, accessFault]

/-- The bits of `SFAULT` a row of the handler records: a store or load what its access does, the cell the source lacks and
the recovery rows `PROTO`, the others nothing (R187 to R193). -/
def rowFault (i : Instr) (s : State) : BitVec 3 :=
  match i with
  | .evtStSrDataAckReceivingData | .evtStSrDataNackReceivingData => accessFault oobSt s
  | .evtStStSlaAck | .evtStStDataAck => accessFault oobLd s
  | .evtStSrDataNackAwaitingIndex => proto
  | i => if recoveryRow i = none then 0#3 else proto

theorem exec_row_sfault {i : Instr} {s t : State} (hi : isRow i = true) (h : exec i s = .next t) :
    t.slv.sfault = s.slv.sfault ||| rowFault i s := by
  cases i <;> simp only [isRow, Bool.false_eq_true] at hi
  all_goals
    obtain ⟨-, rfl⟩ := guarded_next_iff.mp h
    simp [rowFault, recoveryRow]

end Sys2Proof.Machine
end

section
/-! SUPPORT. The record of faults only grows, and the invariant of the block is kept by every step. -/

namespace Sys2Proof.Machine

/-! ### The record of faults only grows (R28) -/

/-- Every bit of `SFAULT` set in the first state is set in the second. -/
def FaultsKept (s t : State) : Prop := ∀ k, s.slv.sfault.getLsbD k = true → t.slv.sfault.getLsbD k = true

theorem FaultsKept.of_eq {s t : State} (h : t.slv.sfault = s.slv.sfault) : FaultsKept s t := fun _ hk => h ▸ hk

theorem FaultsKept.trans {s u t : State} (h : FaultsKept s u) (h' : FaultsKept u t) : FaultsKept s t :=
  fun k hk => h' k (h k hk)

theorem FaultsKept.noStrict {s t : State} (h : FaultsKept s t) (ht : NoStrictFaultRecorded t) :
    NoStrictFaultRecorded s := by
  have clear (k : Nat) (hk : t.slv.sfault.getLsbD k = false) : s.slv.sfault.getLsbD k = false := by
    by_contra hs
    simp [h k (by simpa using hs)] at hk
  exact ⟨clear 0 ht.1, clear 1 ht.2⟩

theorem FaultsKept.noFault {s t : State} (h : FaultsKept s t) (ht : NoFaultRecorded t) : NoFaultRecorded s := by
  refine BitVec.eq_of_getLsbD_eq fun k _ => ?_
  by_contra hs
  have hset := h k (by simpa using hs)
  simp [ht] at hset

/-- No instruction but a row of the handler touches `SFAULT`. -/
theorem Effect.sfault_eq {i : Instr} {s t : State} (h : Effect i s t) (hi : isRow i = false) :
    t.slv.sfault = s.slv.sfault := by
  cases h with
  | answer _ h => rw [(completeStep_kept h).slv]
  | row hrow => simp [hi] at hrow
  | master _ h => rw [h.kept.slv]
  | _ => rfl

theorem exec_sfault_eq {i : Instr} {s t : State} (h : exec i s = .next t) (hi : isRow i = false) :
    t.slv.sfault = s.slv.sfault :=
  (exec_effect h).sfault_eq ((isRow_issued i).trans hi)

theorem exec_faultsKept {i : Instr} {s t : State} (h : exec i s = .next t) : FaultsKept s t := by
  cases hi : isRow i with
  | false => exact .of_eq (exec_sfault_eq h hi)
  | true =>
    intro k hk
    simp [exec_row_sfault hi h, hk]

theorem step_faultsKept {s t : State} (h : step s = .next t) : FaultsKept s t := by
  rcases step_next h with ⟨-, rfl⟩ | ⟨rest, -, rfl⟩ | ⟨turn, rest, w, i, -, -, -, hexec⟩
  · exact .of_eq (by simp)
  · exact .of_eq (by simp)
  · exact exec_faultsKept (s := { s with script := rest }) hexec

theorem run_faultsKept {k : Nat} {s t : State} (h : Sys2Proof.core.run k s = .next t) : FaultsKept s t := by
  induction k generalizing s with
  | zero => cases h; exact .of_eq rfl
  | succ k ih =>
    simp only [Host.Core.run] at h
    split at h
    · next u hu => exact (step_faultsKept hu).trans (ih h)
    · cases h
    · cases h

/-- A run that ends in a next state passes through one after each of its steps. -/
theorem run_split {j m : Nat} {s t : State} (h : Sys2Proof.core.run (j + m) s = .next t) :
    ∃ u : State, Sys2Proof.core.run j s = .next u ∧ Sys2Proof.core.run m u = .next t := by
  induction j generalizing s with
  | zero => exact ⟨s, rfl, by simpa using h⟩
  | succ j ih =>
    rw [Nat.add_right_comm] at h
    simp only [Host.Core.run] at h ⊢
    split at h
    · next u hu => simpa only [hu] using ih h
    · cases h
    · cases h

/-! ### The sequencer's part of the invariant (R21 to R23) -/

/-- `M_BUSY` says whether a command runs, and the sequencer waits for what its state names. -/
def Consistent (s : State) : Prop := (s.mst.mBusy = true ↔ s.mst.mState ≠ .idle) ∧ Sequenced s

/-- The command that runs opens a session in this direction: what is known while the start or the address is awaited. -/
def OpensSession (m : Master) : Prop :=
  m.mOp = 1#3 ∨ (m.mOp = 3#3 ∧ m.mDir = .write) ∨ (m.mOp = 4#3 ∧ m.mDir = .read ∧ 0 < m.mLen.toNat) ∨
    (m.mOp = 5#3 ∧ m.mRan = true ∧
      ((m.mXph = false ∧ m.mDir = .write) ∨ (m.mXph = true ∧ m.mDir = .read ∧ 0 < m.mIlen.toNat)))

/-- The command that runs is in a write body. -/
def InWriteBody (m : Master) : Prop := m.mOp = 3#3 ∨ (m.mOp = 5#3 ∧ m.mRan = true ∧ m.mXph = false)

/-- The command that runs is in a read body. -/
def InReadBody (m : Master) : Prop := m.mOp = 4#3 ∨ (m.mOp = 5#3 ∧ m.mRan = true ∧ m.mXph = true)

theorem OpensSession.write {m : Master} (h : OpensSession m) (hop : m.mOp ≠ opMStart) (hd : m.mDir = .write) :
    InWriteBody m := by
  rcases h with h | ⟨h, -⟩ | ⟨-, h, -⟩ | ⟨h, hr, ⟨hx, -⟩ | ⟨-, h', -⟩⟩
  · exact absurd h hop
  · exact .inl h
  · simp [hd] at h
  · exact .inr ⟨h, hr, hx⟩
  · simp [hd] at h'

theorem OpensSession.read {m : Master} (h : OpensSession m) (hop : m.mOp ≠ opMStart) (hd : m.mDir = .read) :
    InReadBody m ∧ 0 < readLen m := by
  rcases h with h | ⟨-, h⟩ | ⟨h, -, hlen⟩ | ⟨h, hr, ⟨-, h'⟩ | ⟨hx, -, hlen⟩⟩
  · exact absurd h hop
  · simp [hd] at h
  · exact ⟨.inl h, by simpa [readLen, h, opMTransfer] using hlen⟩
  · simp [hd] at h'
  · exact ⟨.inr ⟨h, hr, hx⟩, by simpa [readLen, h, opMTransfer] using hlen⟩

theorem sequenced_startWait {s : State} (h : s.mst.mState = .startWait) :
    Sequenced s ↔ s.phy.step = some .start ∧ OpensSession s.mst := by
  simp only [Sequenced, h, OpensSession]

theorem sequenced_addrWait {s : State} (h : s.mst.mState = .addrWait) :
    Sequenced s ↔ s.phy.step = some (.transmit (addrByte s.mst.mAddr s.mst.mDir)) ∧ OpensSession s.mst := by
  simp only [Sequenced, h, OpensSession, addrByte]

theorem sequenced_txWait {s : State} (h : s.mst.mState = .txWait) :
    Sequenced s ↔
      (∃ b, s.phy.step = some (.transmit b) ∧ s.outbuf.read s.mst.mCnt.toNat = some b) ∧
        s.mst.mCnt.toNat < s.mst.mLen.toNat ∧ InWriteBody s.mst := by
  simp only [Sequenced, h, InWriteBody]

theorem readPolicy_eq {i len : Nat} (h : i < len) : readPolicy i len = if i = len - 1 then .nack else .ack := by
  simp only [readPolicy, show i + 1 = len ↔ i = len - 1 by omega]

theorem sequenced_rxWait {s : State} (h : s.mst.mState = .rxWait) :
    Sequenced s ↔
      InReadBody s.mst ∧ s.mst.mCnt.toNat < readLen s.mst ∧
        s.phy.step = some (.receive (readPolicy s.mst.mCnt.toNat (readLen s.mst))) := by
  have hpolicy := readPolicy_eq (i := s.mst.mCnt.toNat) (len := readLen s.mst)
  simp only [Sequenced, h, InReadBody]
  constructor
  · rintro (⟨hop, hlt, hstep⟩ | ⟨hop, hr, hx, hlt, hstep⟩) <;> simp_all [readLen, opMTransfer]
  · rintro ⟨hop | ⟨hop, hr, hx⟩, hlt, hstep⟩ <;> simp_all [readLen, opMTransfer]

theorem Consistent.of_idle {s : State} (hb : s.mst.mBusy = false) (hidle : s.mst.mState = .idle) : Consistent s :=
  ⟨by simp [hb, hidle], by simp [Sequenced, hidle]⟩

theorem Returned.consistent {t : State} (h : Returned t) : Consistent t := .of_idle h.2.1 h.2.2

theorem beginStart_consistent {d : Direction} {s : State} (hb : s.mst.mBusy = true)
    (ho : OpensSession { s.mst with mDir := d }) : Consistent (beginStart d s) :=
  ⟨by simp [hb], rfl, ho⟩

theorem sendAddress_consistent {s : State} (hb : s.mst.mBusy = true) (ho : OpensSession s.mst) :
    Consistent (sendAddress s) :=
  ⟨by simp [hb], rfl, ho⟩

theorem receiveFrom_consistent {i : Nat} {s : State} (hb : s.mst.mBusy = true) (hr : InReadBody s.mst)
    (hi : i < readLen s.mst) : Consistent (receiveFrom i s) := by
  have hbyte : i < 256 := by
    unfold readLen at hi
    split_ifs at hi <;> omega
  have hcnt : (BitVec.ofNat 8 i).toNat = i := by simpa using hbyte
  refine ⟨by simp [hb], (sequenced_rxWait rfl).mpr ⟨hr, ?_, ?_⟩⟩
  · rw [receiveFrom_mst, hcnt]
    exact hi
  · simp only [receiveFrom_phy, receiveFrom_mst, hcnt]
    rfl

theorem readPhase_consistent {s : State} (hb : s.mst.mBusy = true) (hop : s.mst.mOp = opMTransfer) :
    Consistent (readPhase s) := by
  unfold readPhase finishTransfer
  split_ifs with hlen
  · exact (returnResult_returned _ _).consistent
  · exact beginStart_consistent hb (.inr (.inr (.inr ⟨hop, rfl, .inr ⟨rfl, rfl, by simp; omega⟩⟩)))

theorem writeDone_consistent {s : State} (hb : s.mst.mBusy = true) : Consistent (writeDone s) := by
  unfold writeDone
  split_ifs with hop
  · exact readPhase_consistent hb hop
  · exact (returnResult_returned _ _).consistent

theorem sendFrom_consistent {i : Nat} {s t : State} (hb : s.mst.mBusy = true) (hw : InWriteBody s.mst)
    (h : sendFrom i s = .next t) : Consistent t := by
  rcases sendFrom_next h with ⟨b, hi, hread, rfl⟩ | rfl
  · have hcnt : (BitVec.ofNat 8 i).toNat = i := by simp; omega
    refine ⟨by simp [hb], (sequenced_txWait rfl).mpr ⟨⟨b, rfl, ?_⟩, ?_, hw⟩⟩
    · simpa [hcnt] using hread
    · simpa only [transmitByte_mst, hcnt] using hi
  · exact writeDone_consistent hb

theorem completeStep_consistent {code rx : Byte} {s t : State} (hs : Consistent s)
    (h : completeStep code rx s = .next t) : Consistent t := by
  by_cases hidle : s.mst.mState = .idle
  · have hm := completeStep_idle h hidle
    exact .of_idle (by simpa [hm, hidle] using hs.1) (hm ▸ hidle)
  have hb : s.mst.mBusy = true := hs.1.mpr hidle
  obtain ⟨b, -, ⟨hm, -⟩ | ⟨hm, rfl⟩ | ⟨hm, h⟩ | ⟨hm, h⟩ | ⟨hm, rfl⟩⟩ := completeStep_next h
  · exact absurd hm hidle
  · obtain ⟨-, ho⟩ := (sequenced_startWait hm).mp hs.2
    rcases startCompleted_cases code (recordAnswer b code rx s) with e | e <;> rw [e]
    · exact sendAddress_consistent hb ho
    · exact (raiseFailure_returned _ _).consistent
  · obtain ⟨-, ho⟩ := (sequenced_addrWait hm).mp hs.2
    rcases addressCompleted_next h with rfl | rfl | ⟨hop, hd, h⟩ | ⟨hop, hd, rfl⟩
    · exact (raiseFailure_returned _ _).consistent
    · exact (returnResult_returned _ _).consistent
    · exact sendFrom_consistent (s := recordAnswer b code rx s) hb (ho.write hop hd) h
    · exact receiveFrom_consistent hb (ho.read hop hd).1 (ho.read hop hd).2
  · obtain ⟨-, -, hw⟩ := (sequenced_txWait hm).mp hs.2
    rcases sendCompleted_next h with rfl | h
    · exact (raiseFailure_returned _ _).consistent
    · exact sendFrom_consistent (s := recordAnswer b code rx s) hb hw h
  · obtain ⟨hr, -, -⟩ := (sequenced_rxWait hm).mp hs.2
    rcases receiveCompleted_cases rx (recordAnswer b code rx s) with ⟨hlt, e⟩ | e <;> rw [e]
    · exact receiveFrom_consistent hb hr hlt
    · exact (readDone_returned _).consistent

theorem MasterEffect.consistent {i : Instr} {s t : State} (h : MasterEffect i s t) (hs : Consistent s) :
    Consistent t := by
  cases h with
  | mStart d => exact beginStart_consistent rfl (.inl rfl)
  | mStop => exact hs
  | writeOpens f => exact beginStart_consistent rfl (.inr (.inl ⟨rfl, rfl⟩))
  | writeBody f h => exact sendFrom_consistent rfl (.inl rfl) h
  | readOpens f hlen => exact beginStart_consistent rfl (.inr (.inr (.inl ⟨rfl, rfl, hlen⟩)))
  | readBody f hlen => exact receiveFrom_consistent rfl (.inl rfl) hlen
  | transferReads => exact readPhase_consistent rfl rfl
  | transferWrites => exact beginStart_consistent rfl (.inr (.inr (.inr ⟨rfl, rfl, .inl ⟨rfl, rfl⟩⟩)))

/-! ### Every step keeps the invariant -/

/-- A step of the master keeps the invariant: it writes `INBUF` and the sequencer only, and one role runs (R216). -/
theorem Inv.of_kept {s t : State} (hs : Inv s) (hk : KeptByMaster s t) (hin : t.inbuf.wf = true) (ht : Consistent t)
    (hrole : (s.slv.sEn = false ∧ s.clk.done = true) ∨ t.mst.mState = .idle) : Inv t where
  array_wf := hk.array ▸ hs.array_wf
  outbuf_wf := hk.outbuf ▸ hs.outbuf_wf
  inbuf_wf := hin
  busy := ht.1
  sequenced := ht.2
  one_role hen := hrole.elim (fun h => by simp [hk.slv, h.1] at hen) id
  configured h := by
    rw [hk.clk]
    rcases hrole with ⟨-, hdone⟩ | hidle
    · exact hdone
    · exact hs.configured (.inl (by simpa [hk.slv, hidle] using h))
  capacity := hk.slv ▸ hs.capacity
  pending := hk.slv ▸ hs.pending

/-- A step taken while no command runs, which leaves the sequencer alone, keeps the invariant if it keeps the memories
canonical and what is known of an enabled slave role. -/
theorem Inv.of_idle {s t : State} (hs : Inv s) (hidle : s.mst.mState = .idle) (hm : t.mst = s.mst)
    (ha : t.array.wf = true) (ho : t.outbuf.wf = true) (hi : t.inbuf.wf = true)
    (hrole : t.slv.sEn = true → t.clk.done = true ∧ 1 ≤ t.slv.cap.toNat)
    (hp : t.slv.evtPending = true → t.slv.sEn = true) : Inv t where
  array_wf := ha
  outbuf_wf := ho
  inbuf_wf := hi
  busy := hm ▸ hs.busy
  sequenced := by simp [Sequenced, hm, hidle]
  one_role _ := hm ▸ hidle
  configured h := (hrole (by simpa [hm, hidle] using h)).1
  capacity h := (hrole h).2
  pending := hp

theorem Inv.role {s : State} (hs : Inv s) (hen : s.slv.sEn = true) : s.clk.done = true ∧ 1 ≤ s.slv.cap.toNat :=
  ⟨hs.configured (.inl hen), hs.capacity hen⟩

/-- Operand registers, `PHY`'s side, `hostData` and the trace are outside the invariant while no command runs. -/
theorem Inv.of_idle_outside {s : State} (hs : Inv s) (hidle : s.mst.mState = .idle) (o : Operands) (p : Phy)
    (v : HostWord) (tr : List TraceEntry) : Inv { s with opnd := o, phy := p, hostData := v, trace := tr } :=
  hs.of_idle hidle rfl hs.array_wf hs.outbuf_wf hs.inbuf_wf hs.role hs.pending

theorem Inv.answer {code rx : Byte} {s t : State} (hs : Inv s) (h : completeStep code rx s = .next t) : Inv t := by
  have hin : t.inbuf.wf = true := by
    rw [completeStep_inbuf h]
    split_ifs
    · exact Memory.wf_write _ _ hs.inbuf_wf
    · exact hs.inbuf_wf
  refine hs.of_kept (completeStep_kept h) hin (completeStep_consistent ⟨hs.busy, hs.sequenced⟩ h) ?_
  by_cases hidle : s.mst.mState = .idle
  · exact .inr (completeStep_idle h hidle ▸ hidle)
  · exact .inl ⟨by simpa using mt hs.one_role hidle, hs.configured (.inr hidle)⟩

theorem Inv.row {i : Instr} {s t : State} (hs : Inv s) (hi : isRow i = true) (h : exec i s = .next t) : Inv t := by
  obtain ⟨f, hf, -⟩ := exec_isRow hi
  have hen : s.slv.sEn = true := (handlerCheck_none.mp (guarded_next.mp (hf s ▸ h)).1).1
  have hframe := exec_row_frame hi h
  refine hs.of_idle (hs.one_role hen) hframe.mst ?_ (hframe.outbuf ▸ hs.outbuf_wf) (hframe.inbuf ▸ hs.inbuf_wf) ?_ ?_
  · rcases hframe.array with e | e <;> rw [e]
    · exact hs.array_wf
    · exact Memory.wf_write _ _ hs.array_wf
  · rw [hframe.sEn, hframe.clk, hframe.cap]
    exact hs.role
  · simp [hframe.evtPending]

theorem Effect.inv {i : Instr} {s t : State} (h : Effect i s t) (hs : Inv s) : Inv t := by
  cases h with
  | answer _ h => exact hs.answer h
  | row hi h => exact hs.row hi h
  | master hready h =>
    exact hs.of_kept h.kept (h.inbuf ▸ hs.inbuf_wf) (h.consistent ⟨hs.busy, hs.sequenced⟩) (.inl hready.2.symm)
  | configure hready hoff =>
    exact hs.of_idle hready.1 rfl hs.array_wf hs.outbuf_wf hs.inbuf_wf (by simp [hoff]) hs.pending
  | sStart hready hdone hcap =>
    exact hs.of_idle hready.1 rfl hs.array_wf hs.outbuf_wf hs.inbuf_wf (fun _ => ⟨hdone, hcap⟩) (fun _ => rfl)
  | sStop hready => exact hs.of_idle hready.1 rfl hs.array_wf hs.outbuf_wf hs.inbuf_wf (by simp) (by simp)
  | evtIe hready => exact hs.of_idle hready.1 rfl hs.array_wf hs.outbuf_wf hs.inbuf_wf hs.role hs.pending
  | hpiRearm hidle => exact hs.of_idle hidle rfl hs.array_wf hs.outbuf_wf hs.inbuf_wf hs.role (by simp)
  | raiseEvent hallowed =>
    have hen : s.slv.sEn = true := by simp_all [eventAllowed]
    exact hs.of_idle (hs.one_role hen) rfl hs.array_wf hs.outbuf_wf hs.inbuf_wf hs.role (fun _ => hen)
  | hostWrIndex hready => exact hs.of_idle hready.1 rfl hs.array_wf hs.outbuf_wf hs.inbuf_wf hs.role hs.pending
  | hostWrArray hready =>
    exact hs.of_idle hready.1 rfl (Memory.wf_write _ _ hs.array_wf) hs.outbuf_wf hs.inbuf_wf hs.role hs.pending
  | hostWrOutbuf hready =>
    exact hs.of_idle hready.1 rfl hs.array_wf (Memory.wf_write _ _ hs.outbuf_wf) hs.inbuf_wf hs.role hs.pending
  | hostRd hready | hostWrOperand hready => exact hs.of_idle_outside hready.1 _ _ _ _
  | hpiConfigureClock hidle | hpiIssueStart hidle | hpiIssueStop hidle | hpiTransmitByte hidle | hpiReceiveByte hidle
  | hpiCurrentStatus hidle | hpiEnableSlave hidle | hpiDisableSlave hidle => exact hs.of_idle_outside hidle _ _ _ _

theorem Inv.poll {s : State} (hs : Inv s) : Inv (poll s) := by
  rcases poll_cases s with e | ⟨hrun, -, e⟩ | ⟨hrun, -, e⟩ <;> rw [e]
  · exact hs
  · exact hs.of_kept (by constructor <;> rfl) hs.inbuf_wf (raiseFailure_returned _ _).consistent (.inr rfl)
  · exact ⟨hs.array_wf, hs.outbuf_wf, hs.inbuf_wf, hs.busy, hs.sequenced, hs.one_role, hs.configured, hs.capacity,
      hs.pending⟩

/-- The script is outside the invariant: any turn may come next. -/
theorem Inv.withScript {s : State} (hs : Inv s) (l : List Turn) : Inv { s with script := l } :=
  ⟨hs.array_wf, hs.outbuf_wf, hs.inbuf_wf, hs.busy, hs.sequenced, hs.one_role, hs.configured, hs.capacity, hs.pending⟩

theorem step_inv {s t : State} (hs : Inv s) (h : step s = .next t) : Inv t := by
  rcases step_next h with ⟨-, rfl⟩ | ⟨rest, -, rfl⟩ | ⟨turn, rest, w, i, -, -, -, hexec⟩
  · exact hs.poll
  · exact (hs.withScript rest).poll
  · exact (exec_effect hexec).inv (hs.withScript rest)

/-- Settles O48: the sticky bits carry the premise back to the first state, and the invariant itself is kept whatever is
recorded. -/
theorem everyStepKeepsTheInvariant : Obligations.EveryStepKeepsTheInvariant := by
  unfold Obligations.EveryStepKeepsTheInvariant
  intro s t hs h ht
  exact step_inv (hs ((step_faultsKept h).noStrict ht)) h

end Sys2Proof.Machine
end

section
/-! SUPPORT. The statements over every step and the host port, from the laws above. -/

namespace Sys2Proof.Machine

/-! ### The foreground is blocked while anything waits -/

theorem foregroundWaits_of_waiting {s : State} (h : s.mst.mState ≠ .idle ∨ s.phy.step ≠ none) :
    foregroundWaits s = true := by
  rw [← Bool.not_eq_false, foregroundWaits_eq_false]
  rintro ⟨hidle, hstep⟩
  exact h.elim (· hidle) (· hstep)

theorem foregroundCheck_waiting {s : State} (h : foregroundWaits s = true) :
    foregroundCheck s = some .foregroundBlocked := by
  simp [foregroundCheck, h]

theorem masterCheck_waiting {s : State} (b : Bool) (h : foregroundWaits s = true) :
    masterCheck b s = some .foregroundBlocked := by
  simp [masterCheck, h]

/-- Settles O11: the check of every foreground step looks at the wait first. -/
theorem foregroundIsBlockedWhileItWaits : Obligations.ForegroundIsBlockedWhileItWaits := by
  unfold Obligations.ForegroundIsBlockedWhileItWaits
  intro i s hi hres hwait
  have hf := foregroundCheck_waiting (foregroundWaits_of_waiting hwait)
  have hm := fun b => masterCheck_waiting b (foregroundWaits_of_waiting hwait)
  cases i with
  | cmdReserved b => exact absurd rfl (hres b)
  | mStart d => simp [exec, execMStart, hm]
  | mStop => simp [exec, execMStop, hm]
  | mWrite f => simp [exec, execMWrite, hm]
  | mRead f => simp [exec, execMRead, hm]
  | mTransfer => simp [exec, execMTransfer, hm]
  | configure => simp [exec, execConfigure, hf]
  | sStart => simp [exec, execSStart, hf]
  | sStop => simp [exec, execSStop, hf]
  | cli => simp [exec, execCli, hf]
  | sei => simp [exec, execSei, hf]
  | hostRd x => simp [exec, execHostRd, hf]
  | hostWr x v => simp [exec, execHostWr, hf]
  | _ => simp [isForegroundStep] at hi

/-! ### The record of faults -/

/-- Settles O49: by the turn a step takes, and for the second part by what an instruction other than a row writes. -/
theorem faultBitsAreSticky : Obligations.FaultBitsAreSticky := by
  unfold Obligations.FaultBitsAreSticky
  exact ⟨fun _ _ h => step_faultsKept h, fun _ _ _ h hi => exec_sfault_eq h hi⟩

theorem noStrictFaultRecorded_or {s t : State} {r : BitVec 3} (h : t.slv.sfault = s.slv.sfault ||| r) :
    NoStrictFaultRecorded t ↔ NoStrictFaultRecorded s ∧ r.getLsbD 0 = false ∧ r.getLsbD 1 = false := by
  simp only [NoStrictFaultRecorded, h, BitVec.getLsbD_or, Bool.or_eq_false_iff]
  tauto

theorem noFaultRecorded_or {s t : State} {r : BitVec 3} (h : t.slv.sfault = s.slv.sfault ||| r) :
    NoFaultRecorded t ↔ NoFaultRecorded s ∧ r = 0#3 := by
  simp only [NoFaultRecorded, h, BitVec.or_eq_zero_iff]

/-- The four rows that access `ARRAY` at the cursor. -/
def accessRows : List Instr :=
  [.evtStSrDataAckReceivingData, .evtStSrDataNackReceivingData, .evtStStSlaAck, .evtStStDataAck]

theorem accessFault_strict {bit : BitVec 3} (hbit : bit.getLsbD 0 = true ∨ bit.getLsbD 1 = true) (s : State) :
    (accessFault bit s).getLsbD 0 = false ∧ (accessFault bit s).getLsbD 1 = false ↔
      s.slv.index.toNat < s.slv.cap.toNat := by
  unfold accessFault
  split_ifs with h
  · simp [h]
  · simp only [h, iff_false]
    rintro ⟨h0, h1⟩
    simp only [h0, h1, Bool.false_eq_true, or_self] at hbit

theorem accessFault_eq_zero {bit : BitVec 3} (hbit : bit ≠ 0#3) (s : State) :
    accessFault bit s = 0#3 ↔ s.slv.index.toNat < s.slv.cap.toNat := by
  unfold accessFault
  split_ifs with h <;> simp [h, hbit]

/-- A row records a strict fault exactly where it stores or loads outside the file. -/
theorem rowFault_strict (i : Instr) (s : State) :
    (rowFault i s).getLsbD 0 = false ∧ (rowFault i s).getLsbD 1 = false ↔
      (i ∈ accessRows → s.slv.index.toNat < s.slv.cap.toNat) := by
  unfold rowFault
  split
  case h_1 | h_2 => rw [accessFault_strict (by decide)]; simp [accessRows]
  case h_3 | h_4 => rw [accessFault_strict (by decide)]; simp [accessRows]
  case h_5 => simp [proto, accessRows]
  case h_6 =>
    have hnot : i ∉ accessRows := by simp_all [accessRows]
    split_ifs <;> simp [proto, hnot]

/-- A row records nothing exactly where it records no strict fault and is neither the cell the source lacks nor a recovery
row. -/
theorem rowFault_eq_zero (i : Instr) (s : State) :
    rowFault i s = 0#3 ↔
      (i ∈ accessRows → s.slv.index.toNat < s.slv.cap.toNat) ∧ i ≠ .evtStSrDataNackAwaitingIndex ∧
        recoveryRow i = none := by
  unfold rowFault
  split
  case h_1 | h_2 => simp [accessFault_eq_zero (bit := oobSt) (by decide), accessRows, recoveryRow]
  case h_3 | h_4 => simp [accessFault_eq_zero (bit := oobLd) (by decide), accessRows, recoveryRow]
  case h_5 => simp [proto]
  case h_6 hcell =>
    have hnot : i ∉ accessRows := by simp_all [accessRows]
    have hne : i ≠ .evtStSrDataNackAwaitingIndex := hcell
    split_ifs with hr <;> simp [proto, hnot, hne, hr]

/-- Settles O60: a row records `rowFault`, and the record only grows along a run. -/
theorem faultFreeRunsStayInsideTheFile : Obligations.FaultFreeRunsStayInsideTheFile := by
  unfold Obligations.FaultFreeRunsStayInsideTheFile
  refine ⟨fun i s t hi h => ?_, fun k j s t hjk h => ?_⟩
  · have hrec := exec_row_sfault hi h
    have hstrict : NoStrictFaultRecorded t ↔
        NoStrictFaultRecorded s ∧ (i ∈ accessRows → s.slv.index.toNat < s.slv.cap.toNat) := by
      rw [noStrictFaultRecorded_or hrec, rowFault_strict]
    refine ⟨hstrict, ?_⟩
    rw [hstrict, noFaultRecorded_or hrec, rowFault_eq_zero]
    have hclear := NoFaultRecorded.strict (s := s)
    tauto
  · rw [← Nat.add_sub_cancel' hjk] at h
    obtain ⟨u, hu, hrest⟩ := run_split h
    exact ⟨u, hu, (run_faultsKept hrest).noStrict, (run_faultsKept hrest).noFault⟩

/-! ### Who writes `CAP`, `EVT_IE`, `RESULT` (R24, R27, R34) -/

theorem Effect.cap_eq {i : Instr} {s t : State} (h : Effect i s t) :
    t.slv.cap = s.slv.cap ∨ (i = .sStart ∧ t.slv.cap = s.opnd.aCap) := by
  cases h with
  | answer _ h => exact .inl (by rw [(completeStep_kept h).slv])
  | row hi h => exact .inl (exec_row_frame hi h).cap
  | master _ h => exact .inl (by rw [h.kept.slv])
  | sStart => exact .inr ⟨rfl, rfl⟩
  | _ => exact .inl rfl

theorem Effect.evtIe_eq {i : Instr} {s t : State} (h : Effect i s t) :
    t.slv.evtIe = s.slv.evtIe ∨ i = .cli ∨ i = .sei ∨ ∃ v, i = .hostWr .evtIe v := by
  cases h with
  | answer _ h => exact .inl (by rw [(completeStep_kept h).slv])
  | row hi h => exact .inl (exec_row_frame hi h).evtIe
  | master _ h => exact .inl (by rw [h.kept.slv])
  | evtIe _ _ hi => exact .inr hi
  | _ => exact .inl rfl

theorem Effect.result {i : Instr} {s t : State} (h : Effect i s t) :
    ResultKept s t ∨
      (Returned t ∧
        ((statusRow i ≠ none ∧ s.mst.mState ≠ .idle) ∨ (∃ f, i = .mWrite f) ∨ i = .mTransfer)) := by
  cases h with
  | answer hi h => exact (completeStep_result h).imp_right fun ⟨hret, hrun⟩ => ⟨hret, .inl ⟨by simp [hi], hrun⟩⟩
  | row hi h => exact .inl (by simp [ResultKept, (exec_row_frame hi h).mst])
  | master _ h => exact h.result.imp_right fun ⟨hret, hi⟩ => ⟨hret, .inr hi⟩
  | _ => exact .inl ⟨rfl, rfl⟩

/-- Settles O50: a host write of `CMD` is taken as the command it issues, which is none of the writers of `EVT_IE`. -/
theorem capacityAndDeliveryEnableHaveOneWriter : Obligations.CapacityAndDeliveryEnableHaveOneWriter := by
  unfold Obligations.CapacityAndDeliveryEnableHaveOneWriter
  intro i s t h _
  have heff := exec_effect h
  refine ⟨fun hne => ?_, fun hne => ?_⟩
  · obtain ⟨hi, hcap⟩ := heff.cap_eq.resolve_left hne
    refine ⟨hcap, ?_⟩
    rcases issued_cases i with e | ⟨v, rfl, e⟩ <;> rw [e] at hi
    · exact .inl hi
    · exact .inr ⟨v, rfl, hi⟩
  · have hi := heff.evtIe_eq.resolve_left hne
    rcases issued_cases i with e | ⟨v, rfl, e⟩ <;> rw [e] at hi
    · exact hi
    · have hcmd := decodeCmd_isCommand (v.setWidth 8)
      rcases hi with hi | hi | ⟨w, hi⟩ <;> rw [hi] at hcmd <;> cases hcmd

/-- Settles O51: by an answer or a command `Effect.result`, by a turn nobody takes the three cases of `poll`. -/
theorem resultIsWrittenOnlyOnReturn : Obligations.ResultIsWrittenOnlyOnReturn := by
  unfold Obligations.ResultIsWrittenOnlyOnReturn
  refine ⟨fun i s t h _ => ?_, fun s _ => ?_⟩
  · refine (exec_effect h).result.imp_right fun ⟨⟨hvalid, hbusy, hidle⟩, hi⟩ => ⟨hvalid, hbusy, hidle, ?_⟩
    rcases issued_cases i with e | ⟨v, rfl, e⟩ <;> rw [e] at hi
    · rcases hi with hans | hwr | htr
      · exact .inl hans
      · exact .inr (.inl hwr)
      · exact .inr (.inr (.inl htr))
    · rw [(decodeCmd_isCommand _).statusRow_eq_none] at hi
      exact .inr (.inr (.inr ⟨v, rfl, hi.resolve_left (fun h => h.1 rfl)⟩))
  · rcases poll_cases s with e | ⟨hrun, ⟨n, hn, -⟩, e⟩ | ⟨-, -, e⟩ <;> rw [e]
    · exact .inl ⟨rfl, rfl⟩
    · exact .inr ⟨rfl, rfl, rfl, rfl, hrun, by simp [hn]⟩
    · exact .inl ⟨rfl, rfl⟩

/-! ### The frame of the master -/

/-- Settles O53: the answers and the commands keep what `KeptByMaster` lists, and only an answer writes `INBUF`. -/
theorem masterFrame : Obligations.MasterFrame := by
  unfold Obligations.MasterFrame
  intro i s t h _ hi
  have hframe : KeptByMaster s t ∧
      (t.inbuf = s.inbuf ∨ (s.mst.mState = .rxWait ∧ ∃ rx, t.inbuf = s.inbuf.write s.mst.mCnt.toNat rx)) := by
    rcases hi with hans | ⟨d, rfl⟩ | rfl | ⟨f, rfl⟩ | ⟨f, rfl⟩ | rfl
    · obtain ⟨⟨code, rx⟩, hrow⟩ := Option.ne_none_iff_exists'.mp hans
      rw [exec_statusRow hrow] at h
      refine ⟨completeStep_kept h, ?_⟩
      rw [completeStep_inbuf h]
      split_ifs with hrx
      · exact .inr ⟨hrx, rx, rfl⟩
      · exact .inl rfl
    · exact ⟨(execMStart_effect h).2.kept, .inl (execMStart_effect h).2.inbuf⟩
    · exact ⟨(execMStop_effect h).2.kept, .inl (execMStop_effect h).2.inbuf⟩
    · exact ⟨(execMWrite_effect h).2.kept, .inl (execMWrite_effect h).2.inbuf⟩
    · exact ⟨(execMRead_effect h).2.kept, .inl (execMRead_effect h).2.inbuf⟩
    · exact ⟨(execMTransfer_effect h).2.kept, .inl (execMTransfer_effect h).2.inbuf⟩
  obtain ⟨hk, hin⟩ := hframe
  refine ⟨hk.slv, hk.array, hk.outbuf, hk.opnd, hk.clk, hk.hostData, hk.draws, fun a ha => ?_⟩
  rcases hin with e | ⟨hrx, rx, e⟩ <;> rw [e]
  exact Memory.read_write_other _ _ (ha.resolve_left (· hrx))

/-! ### An answer to a primitive issued by itself -/

/-- Settles O28: every answer is the shared completion, which goes on from `M_STATE` and the outstanding step. -/
theorem answerCompletesTheOutstandingStep : Obligations.AnswerCompletesTheOutstandingStep := by
  unfold Obligations.AnswerCompletesTheOutstandingStep
  intro i code rx s _ hi
  rw [exec_statusRow hi]
  refine ⟨fun b hidle hstep => ?_, fun hstep => ?_⟩
  · simp only [completeStep, hstep, hidle]
    rfl
  · simp only [completeStep, hstep]

/-! ### The host port (R219) -/

/-- A foreground step that finds nothing waiting has its effect (R22). -/
theorem guarded_foregroundCheck {s : State} (hready : ForegroundReady s) (o : Outcome) :
    guarded (foregroundCheck s) o = o := by
  rw [foregroundCheck_none.mpr hready, guarded_none]

theorem exec_hostRd_ok {s : State} {x : RdTarget} {v : HostWord} (hready : ForegroundReady s)
    (hv : hostValue x s = .ok v) : exec (.hostRd x) s = .next { s with hostData := v } := by
  simp only [exec, execHostRd, guarded_foregroundCheck hready, hv]

theorem exec_hostRd_error {s : State} {x : RdTarget} {e : Fault} (hready : ForegroundReady s)
    (hv : hostValue x s = .error e) : exec (.hostRd x) s = .fault e := by
  simp only [exec, execHostRd, guarded_foregroundCheck hready, hv]

theorem boolWord_eq (b : Bool) : boolWord b = if b then 1#32 else 0#32 := by cases b <;> rfl

theorem cmdResult_bit_iff (r : CmdResult) : r.bit = true ↔ r = .fail := by cases r <;> simp [CmdResult.bit]

theorem receivePhase_bit_iff (p : ReceivePhase) : p.bit = true ↔ p = .receivingData := by
  cases p <;> simp [ReceivePhase.bit]

/-- Settles O45: each read returns `hostValue`, which is given location by location. -/
theorem hostReadReturnsTheRegister : Obligations.HostReadReturnsTheRegister := by
  unfold Obligations.HostReadReturnsTheRegister
  intro s _ hready
  refine ⟨fun hv => exec_hostRd_ok hready ?_, exec_hostRd_ok hready ?_, exec_hostRd_ok hready ?_,
    exec_hostRd_ok hready rfl, exec_hostRd_ok hready rfl, exec_hostRd_ok hready ?_, exec_hostRd_ok hready ?_,
    fun hv => exec_hostRd_ok hready ?_, exec_hostRd_ok hready ?_, fun k b hb => exec_hostRd_ok hready ?_,
    fun k b hb => exec_hostRd_ok hready ?_, fun hv => exec_hostRd_error hready ?_,
    fun hv => exec_hostRd_error hready ?_, fun k hk => exec_hostRd_error hready ?_,
    fun k hk => exec_hostRd_error hready ?_⟩ <;>
    simp only [hostValue, cellValue, boolWord_eq, cmdResult_bit_iff, receivePhase_bit_iff, Bool.false_eq_true, if_true,
      if_false, *]

/-- Settles O46: a host write of `CMD` issues the command, any other writes its own location. -/
theorem hostWriteWritesOneLocation : Obligations.HostWriteWritesOneLocation := by
  unfold Obligations.HostWriteWritesOneLocation
  intro s v _ hready
  have hrun := guarded_foregroundCheck hready
  exact ⟨hrun _, hrun _, hrun _, hrun _, hrun _, hrun _, hrun _, hrun _, (hrun _).trans (issueCommand_eq_exec _ s),
    fun k => ⟨_, Memory.read_write_same _ _ _, fun _ ha => Memory.read_write_other _ _ ha, hrun _⟩,
    fun k => ⟨_, Memory.read_write_same _ _ _, fun _ ha => Memory.read_write_other _ _ ha, hrun _⟩⟩

end Sys2Proof.Machine
end

section
/-! SUPPORT. The statements about one step at a time: the handler's rows that access `ARRAY`, the primitives issued by
themselves, and what can run while a command runs. -/

namespace Sys2Proof.Machine

/-! ### The rows that access `ARRAY` at the cursor (R64, R65) -/

/-- A delivered event passes the check of the row its status and the phase select (R180, R181). -/
theorem guarded_handlerCheck {row : Instr} {code : Byte} {s : State} (hdel : Delivers s code)
    (hrow : decodeEvt code s.slv.sPhase = row) (o : Outcome) : guarded (handlerCheck row s) o = o := by
  obtain ⟨hen, hie, hpend, rfl⟩ := hdel
  rw [handlerCheck_none.mpr ⟨hen, hie, hpend, hrow⟩, guarded_none]

/-- A store in range writes the byte into its cell and into no other (R64). -/
theorem arrayStore_inside {i : Byte} (v : Byte) {s : State} (h : i.toNat < s.slv.cap.toNat) :
    ∃ m : Memory, m.read i.toNat = some v ∧ (∀ a, a ≠ i.toNat → m.read a = s.array.read a) ∧
      arrayStore i v s = { s with array := m } :=
  ⟨s.array.write i.toNat v, Memory.read_write_same _ _ _, fun _ ha => Memory.read_write_other _ _ ha,
    if_pos (decide_eq_true h)⟩

theorem arrayStore_outside {i : Byte} (v : Byte) {s : State} (h : s.slv.cap.toNat ≤ i.toNat) :
    arrayStore i v s = setFault oobSt s :=
  if_neg (by simp [inRange, h])

theorem loadTx_written {i b : Byte} {s : State} (h : i.toNat < s.slv.cap.toNat) (hb : s.array.read i.toNat = some b) :
    loadTx i s = { s with slv := { s.slv with txData := b } } := by
  simp [loadTx, inRange, h, hb]

theorem loadTx_unwritten {i : Byte} {s : State} (h : i.toNat < s.slv.cap.toNat) (hb : s.array.read i.toNat = none) :
    loadTx i s = loadFree s := by
  simp [loadTx, inRange, h, hb]

/-- An access beyond `CAP` records its bit, which ends `NoStrictFaultRecorded` whatever was recorded before (R236). -/
theorem accessFault_outside {bit : BitVec 3} (hbit : bit.getLsbD 0 = true ∨ bit.getLsbD 1 = true) {s t : State}
    (hout : s.slv.cap.toNat ≤ s.slv.index.toNat) (h : t.slv.sfault = s.slv.sfault ||| accessFault bit s) :
    t.slv.sfault = s.slv.sfault ||| bit ∧ ¬ NoStrictFaultRecorded t := by
  refine ⟨by rw [h, accessFault, if_neg hout.not_gt], fun ht => ?_⟩
  have hin := (accessFault_strict hbit s).mp ((noStrictFaultRecorded_or h).mp ht).2
  omega

/-- Settles O31: in range by the store's one write, beyond `CAP` by what the row records. -/
theorem dataByteIsStoredAtTheCursor : Obligations.DataByteIsStoredAtTheCursor := by
  unfold Obligations.DataByteIsStoredAtTheCursor
  intro s _ hdel hphase
  have hrun : exec .evtStSrDataAckReceivingData s = .next (rowStore s) :=
    guarded_handlerCheck hdel (by rw [hphase]; rfl) _
  refine ⟨fun hin => ?_, fun hout => ?_⟩
  · obtain ⟨m, hcell, hother, hstore⟩ := arrayStore_inside s.slv.evtRx hin
    refine ⟨m, hcell, hother, ?_⟩
    rw [hrun, rowStore, hstore]
    rfl
  · refine ⟨rowStore s, hrun, ?_, accessFault_outside (.inl rfl) hout (rowStore_sfault s)⟩
    rw [rowStore, arrayStore_outside _ hout]
    rfl

/-- Settles O32: the store is the one of the acknowledged row, only the cursor is reset after it. -/
theorem unacknowledgedByteIsStoredClamped : Obligations.UnacknowledgedByteIsStoredClamped := by
  unfold Obligations.UnacknowledgedByteIsStoredClamped
  intro s _ hdel hphase
  have hrun : exec .evtStSrDataNackReceivingData s = .next (rowStoreLast s) :=
    guarded_handlerCheck hdel (by rw [hphase]; rfl) _
  refine ⟨fun hin => ?_, fun hout => ?_⟩
  · obtain ⟨m, hcell, hother, hstore⟩ := arrayStore_inside s.slv.evtRx hin
    refine ⟨m, hcell, hother, ?_⟩
    rw [hrun, rowStoreLast, hstore]
    rfl
  · refine ⟨rowStoreLast s, hrun, ?_, accessFault_outside (.inl rfl) hout (rowStoreLast_sfault s)⟩
    rw [rowStoreLast, arrayStore_outside _ hout]
    rfl

/-- Both rows of R190 load at the cursor, in either phase. -/
theorem exec_loadRow {i : Instr} {code : Byte} {s : State}
    (hi : (i, code) ∈ [(Instr.evtStStSlaAck, 0xA8#8), (.evtStStDataAck, 0xB8#8)]) (hdel : Delivers s code) :
    exec i s = .next (rowLoad s) := by
  simp only [List.mem_cons, List.not_mem_nil, or_false, Prod.mk.injEq] at hi
  rcases hi with ⟨rfl, rfl⟩ | ⟨rfl, rfl⟩
  · exact guarded_handlerCheck hdel (by cases s.slv.sPhase <;> rfl) _
  · exact guarded_handlerCheck hdel (by cases s.slv.sPhase <;> rfl) _

/-- Settles O34: in range the cell's byte or a free one, beyond `CAP` by what the row records. -/
theorem transmitRowSuppliesTheByteAtTheCursor : Obligations.TransmitRowSuppliesTheByteAtTheCursor := by
  unfold Obligations.TransmitRowSuppliesTheByteAtTheCursor
  intro i code s hi _ hdel
  have hrun := exec_loadRow hi hdel
  refine ⟨fun b hin hb => ?_, fun hin hb => ⟨Config.freeByte s.draws, ?_⟩, fun hout => ?_⟩
  · rw [hrun, rowLoad, loadTx_written hin hb]
    rfl
  · rw [hrun, rowLoad, loadTx_unwritten hin hb]
    rfl
  · exact ⟨rowLoad s, hrun, accessFault_outside (.inr rfl) hout (rowLoad_sfault s)⟩

/-! ### The primitives issued by themselves (R71) -/

theorem primitiveCheck_outstanding {s : State} (hidle : s.mst.mState = .idle) (hstep : s.phy.step ≠ none) :
    primitiveCheck s = some .busStepOutstanding := by
  simp [primitiveCheck, hidle, Option.isSome_iff_ne_none, hstep]

theorem guarded_primitiveCheck {s : State} (hready : ForegroundReady s) (o : Outcome) :
    guarded (primitiveCheck s) o = o := by
  rw [primitiveCheck_none.mpr hready, guarded_none]

theorem guarded_primitiveCheck_running {s : State} (hrun : s.mst.mState ≠ .idle) (o : Outcome) :
    guarded (primitiveCheck s) o = .refused .commandRunning := by
  rw [primitiveCheck_running hrun, guarded_some]

theorem guarded_standAloneCheck {s : State} (hidle : s.mst.mState = .idle) (o : Outcome) :
    guarded (standAloneCheck s) o = o := by
  rw [standAloneCheck_none.mpr hidle, guarded_none]

theorem guarded_standAloneCheck_running {s : State} (hrun : s.mst.mState ≠ .idle) (o : Outcome) :
    guarded (standAloneCheck s) o = .refused .commandRunning := by
  rw [standAloneCheck_running hrun, guarded_some]

/-- The five primitives that need the bus share one check and have no other refusal (R120 to R124). -/
theorem exec_busPrimitive {i : Instr}
    (hi : i = .hpiConfigureClock ∨ i = .hpiIssueStart ∨ i = .hpiIssueStop ∨ (∃ b, i = .hpiTransmitByte b) ∨
      (∃ p, i = .hpiReceiveByte p)) (s : State) : ∃ t, exec i s = guarded (primitiveCheck s) (.next t) := by
  rcases hi with rfl | rfl | rfl | ⟨b, rfl⟩ | ⟨p, rfl⟩ <;> exact ⟨_, rfl⟩

theorem exec_hpiCurrentStatus {s : State} (hidle : s.mst.mState = .idle) :
    exec .hpiCurrentStatus s = if s.phy.statusKnown then .next (currentStatus s) else .fault .noCurrentStatus :=
  guarded_standAloneCheck hidle _

/-- Settles O42: by the outcome of the check, and for the current status by whether there is one. -/
theorem masterSidePrimitivesRequestOneStep : Obligations.MasterSidePrimitivesRequestOneStep := by
  unfold Obligations.MasterSidePrimitivesRequestOneStep
  refine ⟨fun s _ hidle hstep => ?_, fun i s hi => ?_, fun s _ => ⟨fun hidle hknown => ?_, fun hidle hknown => ?_,
    fun hrun => guarded_standAloneCheck_running hrun _⟩⟩
  · have hready := guarded_primitiveCheck (s := s) ⟨hidle, hstep⟩
    exact ⟨hready _, hready _, hready _, fun _ => hready _, fun _ => hready _⟩
  · obtain ⟨t, hexec⟩ := exec_busPrimitive hi s
    rw [hexec]
    refine ⟨fun hidle hstep => ?_, fun hrun => guarded_primitiveCheck_running hrun _⟩
    rw [primitiveCheck_outstanding hidle hstep, guarded_some]
  · rw [exec_hpiCurrentStatus hidle, if_pos hknown]
    rfl
  · rw [exec_hpiCurrentStatus hidle, hknown]
    rfl

/-- Settles O43: the three primitives share one check, which passes exactly while no command runs. -/
theorem slaveSidePrimitives : Obligations.SlaveSidePrimitives := by
  unfold Obligations.SlaveSidePrimitives
  intro s _
  refine ⟨fun hidle => ?_, fun hrun => ?_⟩
  · have hpass := guarded_standAloneCheck hidle
    exact ⟨fun _ => hpass _, hpass _, fun _ _ => hpass _⟩
  · have hrefuse := guarded_standAloneCheck_running hrun
    exact ⟨fun _ => hrefuse _, hrefuse _, fun _ _ => hrefuse _⟩

/-! ### While a command runs (R71, R168, R216) -/

/-- R180: with the slave role off no row of the handler is delivered. -/
theorem exec_row_disabled {i : Instr} {s : State} (hi : isRow i = true) (hoff : s.slv.sEn = false) :
    exec i s = .refused .handlerNotEnabled := by
  obtain ⟨f, hf, -⟩ := exec_isRow hi
  simp [hf, handlerCheck, deliverable, hoff]

/-- R132: with the slave role off `PHY` raises no event. -/
theorem exec_phyRaiseEvent_disabled (status rx : Byte) {s : State} (hoff : s.slv.sEn = false) :
    exec (.phyRaiseEvent status rx) s = .refused .eventNotAllowed := by
  simp [exec, execPhyRaiseEvent, eventAllowed, hoff]

/-- R22, R107: a foreground step is refused while a command runs, a reserved command byte always. -/
theorem exec_foreground_running {i : Instr} {s : State} (hi : isForegroundStep i = true) (hrun : s.mst.mState ≠ .idle) :
    ∃ r, exec i s = .refused r := by
  by_cases hres : ∃ b, i = .cmdReserved b
  · obtain ⟨b, rfl⟩ := hres
    exact ⟨.reservedEncoding, rfl⟩
  · exact ⟨_, foregroundIsBlockedWhileItWaits i s hi (not_exists.mp hres) (.inl hrun)⟩

/-- Settles O52: the running command shuts out the slave role (R216) and blocks the foreground and the primitives. -/
theorem onlyAnAnswerMovesAWaitingCommand : Obligations.OnlyAnAnswerMovesAWaitingCommand := by
  unfold Obligations.OnlyAnAnswerMovesAWaitingCommand
  intro i s hinv hrun
  have hoff : s.slv.sEn = false := by simpa using mt hinv.one_role hrun
  refine ⟨fun hans => ?_, fun hrow => exec_row_disabled hrow hoff⟩
  by_cases hrow : isRow i = true
  · exact ⟨_, exec_row_disabled hrow hoff⟩
  by_cases hfg : isForegroundStep i = true
  · exact exec_foreground_running hfg hrun
  cases i with
  | hpiConfigureClock | hpiIssueStart | hpiIssueStop | hpiTransmitByte | hpiReceiveByte =>
    exact ⟨_, guarded_primitiveCheck_running hrun _⟩
  | hpiCurrentStatus | hpiEnableSlave | hpiDisableSlave | hpiRearm =>
    exact ⟨_, guarded_standAloneCheck_running hrun _⟩
  | phyRaiseEvent status rx => exact ⟨_, exec_phyRaiseEvent_disabled status rx hoff⟩
  | _ => simp [statusRow, isRow, isForegroundStep] at hans hrow hfg

end Sys2Proof.Machine
end

section
/-! SUPPORT. The statements about the encodings: the decoder undoes the encoder, and what it accepts is well-formed. -/

namespace Sys2Proof.Machine

/-! ### The decoder at the words of each port's encoder -/

theorem cmdReserved_wf_iff {b : Byte} : (Instr.cmdReserved b).wf = true ↔ decodeCmd b = .cmdReserved b := by
  rw [Instr.wf, Bool.not_eq_true', ← Bool.not_eq_true, decodeCmd_legal, not_not]

theorem statusUnknown_wf_iff {code rx : Byte} : (Instr.statusUnknown code rx).wf = true ↔ classify code = .unknown := by
  rw [Instr.wf, Bool.not_eq_true', classify_unknown]

theorem evtUnknown_wf_iff {code : Byte} : (Instr.evtUnknown code).wf = true ↔ classify code = .unknown := by
  rw [Instr.wf, Bool.not_eq_true', classify_unknown]

theorem decodeStatus_of_unknown {code : Byte} (rx : Byte) (h : classify code = .unknown) :
    decodeStatus code rx = .statusUnknown code rx := by
  simp only [decodeStatus, h]

theorem decodeEvt_of_unknown {code : Byte} (ph : ReceivePhase) (h : classify code = .unknown) :
    decodeEvt code ph = .evtUnknown code := by
  simp only [decodeEvt, h]

/-- The high field of a twelve-bit request, `HOP` (R110). -/
theorem extractLsb'_hop (hop : BitVec 4) (harg : Byte) : (hop ++ harg).extractLsb' 8 4 = hop :=
  BitVec.extractLsb'_append_eq_left

/-- The low field of a twelve-bit request, `HARG` (R110). -/
theorem extractLsb'_harg (hop : BitVec 4) (harg : Byte) : (hop ++ harg).extractLsb' 0 8 = harg :=
  BitVec.extractLsb'_append_eq_right

theorem decodeHpi_transmitByte (b : Byte) : decodeHpi (0x3#4 ++ b) = .ok (.hpiTransmitByte b) := by
  simp [decodeHpi, extractLsb'_hop, extractLsb'_harg]

theorem decodeHpi_enableSlave (a : BusAddr) : decodeHpi (0x6#4 ++ (0#1 ++ a)) = .ok (.hpiEnableSlave a) := by
  have haddr : (0x6#4 ++ (0#1 ++ a)).extractLsb' 0 7 = a :=
    (BitVec.extractLsb'_append_eq_of_add_le (by decide)).trans BitVec.extractLsb'_append_eq_right
  simp [decodeHpi, extractLsb'_hop, haddr]

theorem decode_phyRaiseEvent (ph : ReceivePhase) (status rx : Byte) :
    decode ph (encode (.phyRaiseEvent status rx)) = .ok (.phyRaiseEvent status rx) := by
  obtain ⟨hword, harg⟩ := Laws.PortFits.phyRaiseEvent status rx rfl
  have hstatus : ((status ++ rx).setWidth 32).extractLsb' 8 8 = status :=
    (BitVec.extractLsb'_setWidth_of_le (by decide)).trans BitVec.extractLsb'_append_eq_left
  have hrx : ((status ++ rx).setWidth 32).extractLsb' 0 8 = rx :=
    (BitVec.extractLsb'_setWidth_of_le (by decide)).trans BitVec.extractLsb'_append_eq_right
  rw [decode, if_neg hword.not_ge, if_neg harg.not_ge]
  simp only [encode, hstatus, hrx]

theorem decode_hostRd (ph : ReceivePhase) (x : RdTarget) : decode ph (encode (.hostRd x)) = .ok (.hostRd x) := by
  obtain ⟨hword, harg⟩ := Laws.PortFits.hostRd x rfl
  rw [decode, if_neg hword.not_ge, if_neg harg.not_ge]
  simp only [encode, decodeRdTarget_number]

theorem decode_hostWr (ph : ReceivePhase) {x : WrTarget} {v : HostWord} (h : (Instr.hostWr x v).wf = true) :
    decode ph (encode (.hostWr x v)) = .ok (.hostWr x v) := by
  obtain ⟨hword, harg⟩ := Laws.PortFits.hostWr x v h
  have hv : v.toNat < 2 ^ x.width := of_decide_eq_true h
  rw [decode, if_neg hword.not_ge, if_neg harg.not_ge]
  simp only [encode, decodeWrTarget_number]
  exact if_pos hv

/-- Settles O3: by the port the instruction is encoded for. -/
theorem decodingAnEncodedInstructionGivesItBack : Obligations.DecodingAnEncodedInstructionGivesItBack := by
  unfold Obligations.DecodingAnEncodedInstructionGivesItBack
  intro i ph hwf hph
  cases i with
  | configure | mStop | mTransfer | sStart | sStop => exact decode_encodeCmd ph _
  | mStart d => cases d <;> exact decode_encodeCmd ph _
  | mWrite f | mRead f => cases f <;> exact decode_encodeCmd ph _
  | cmdReserved b => exact (decode_encodeCmd ph b).trans (congrArg _ (cmdReserved_wf_iff.mp hwf))
  | statusUnknown code rx =>
    exact (decode_encodeStatus ph code rx).trans (congrArg _ (decodeStatus_of_unknown rx (statusUnknown_wf_iff.mp hwf)))
  | evtUnknown code =>
    exact (decode_encodeEvt ph code).trans (congrArg _ (decodeEvt_of_unknown ph (evtUnknown_wf_iff.mp hwf)))
  | evtStSrDataAckAwaitingIndex | evtStSrDataAckReceivingData | evtStSrDataNackReceivingData
  | evtStSrDataNackAwaitingIndex =>
    obtain rfl := eq_of_beq hph
    exact decode_encodeEvt _ _
  | hpiConfigureClock | hpiIssueStart | hpiIssueStop | hpiCurrentStatus | hpiDisableSlave =>
    exact decode_encodeHpi ph _ _
  | hpiTransmitByte b => exact (decode_encodeHpi ph _ _).trans (decodeHpi_transmitByte b)
  | hpiEnableSlave a => exact (decode_encodeHpi ph _ _).trans (decodeHpi_enableSlave a)
  | hpiReceiveByte p => cases p <;> exact decode_encodeHpi ph _ _
  | hpiRearm p stop => cases p <;> cases stop <;> exact decode_encodeHpi ph _ _
  | phyRaiseEvent status rx => exact decode_phyRaiseEvent ph status rx
  | cli | sei => rfl
  | hostRd x => exact decode_hostRd ph x
  | hostWr x v => exact decode_hostWr ph hwf
  | statusStBusError rx | statusStStart rx | statusStRepStart rx | statusStMtSlaAck rx | statusStMtSlaNack rx
  | statusStMtDataAck rx | statusStMtDataNack rx | statusStMrSlaAck rx | statusStMrSlaNack rx | statusStMrDataAck rx
  | statusStMrDataNack rx | statusStSrSlaAck rx | statusStSrDataAck rx | statusStSrDataNack rx | statusStSrStop rx
  | statusStStSlaAck rx | statusStStDataAck rx | statusStStDataNack rx | statusStStLastData rx =>
    exact decode_encodeStatus ph _ rx
  -- the rows of the handler that a status selects in either phase (R181)
  | _ => exact decode_encodeEvt ph _

/-! ### What each port's decoder answers -/

/-- A reserved command carries the byte it was decoded from (R107). -/
theorem eq_of_decodeCmd_eq_reserved {b b' : Byte} (h : decodeCmd b = .cmdReserved b') : b' = b := by
  simp only [decodeCmd] at h
  split_ifs at h <;> exact (Instr.cmdReserved.inj h).symm

theorem decodeCmd_wf (b : Byte) : (decodeCmd b).wf = true := by
  have hcmd := decodeCmd_isCommand b
  generalize hdec : decodeCmd b = i at hcmd ⊢
  cases hcmd with
  | cmdReserved b' =>
    obtain rfl := eq_of_decodeCmd_eq_reserved hdec
    exact cmdReserved_wf_iff.mpr hdec
  | _ => rfl

theorem IsCommand.inPhase {i : Instr} (h : IsCommand i) (ph : ReceivePhase) : i.inPhase ph = true := by cases h <;> rfl

theorem decodeStatus_wf_inPhase (code rx : Byte) (ph : ReceivePhase) :
    (decodeStatus code rx).wf = true ∧ (decodeStatus code rx).inPhase ph = true := by
  cases h : classify code with
  | unknown =>
    rw [decodeStatus_of_unknown rx h]
    exact ⟨statusUnknown_wf_iff.mpr h, rfl⟩
  | _ => simp only [decodeStatus, h, Instr.wf, Instr.inPhase, and_self]

/-- The row selected by a status and a phase is selected in that phase (R181). -/
theorem decodeEvt_wf_inPhase (code : Byte) (ph : ReceivePhase) :
    (decodeEvt code ph).wf = true ∧ (decodeEvt code ph).inPhase ph = true := by
  cases h : classify code with
  | unknown =>
    rw [decodeEvt_of_unknown ph h]
    exact ⟨evtUnknown_wf_iff.mpr h, rfl⟩
  | stSrDataAck | stSrDataNack => cases ph <;> simp [decodeEvt, h, Instr.wf, Instr.inPhase]
  | _ => simp only [decodeEvt, h, Instr.wf, Instr.inPhase, and_self]

theorem decodeHpi_wf_inPhase {w : BitVec 12} {i : Instr} (h : decodeHpi w = .ok i) (ph : ReceivePhase) :
    i.wf = true ∧ i.inPhase ph = true := by
  simp only [decodeHpi] at h
  split_ifs at h <;> cases h <;> exact ⟨rfl, rfl⟩

/-- Settles O4: by the port of the word. -/
theorem decodedInstructionsAreWellFormed : Obligations.DecodedInstructionsAreWellFormed := by
  unfold Obligations.DecodedInstructionsAreWellFormed
  rintro ph ⟨p, word, arg⟩ i h
  unfold decode at h
  split at h
  · cases h
  split at h
  · cases h
  cases p with
  | cmd =>
    cases h
    exact ⟨decodeCmd_wf _, (decodeCmd_isCommand _).inPhase ph⟩
  | status =>
    cases h
    exact decodeStatus_wf_inPhase _ _ ph
  | evt =>
    cases h
    exact decodeEvt_wf_inPhase _ ph
  | hpi => exact decodeHpi_wf_inPhase h ph
  | phyEvent =>
    cases h
    exact ⟨rfl, rfl⟩
  | fgIe =>
    cases h
    split <;> exact ⟨rfl, rfl⟩
  | hostRd =>
    dsimp only at h
    split at h <;> cases h
    exact ⟨rfl, rfl⟩
  | hostWr =>
    dsimp only at h
    split at h
    · split_ifs at h with hv
      cases h
      exact ⟨decide_eq_true hv, rfl⟩
    · cases h

/-- Settles O2: each word is the encoding of the row it stands for. -/
theorem wordsOfTheSpecDecode : Obligations.WordsOfTheSpecDecode := by
  unfold Obligations.WordsOfTheSpecDecode
  have back := decodingAnEncodedInstructionGivesItBack
  exact ⟨back .configure _ rfl rfl, back (.mStart .read) _ rfl rfl, back (.mWrite .startAndStop) _ rfl rfl,
    back (.mRead .stop) _ rfl rfl, back (.cmdReserved 0x0A#8) _ rfl rfl, back (.statusStMrSlaAck 0x7E#8) _ rfl rfl,
    back .evtStSrDataAckReceivingData _ rfl rfl, back (.evtUnknown 0xF8#8) _ rfl rfl,
    back (.hpiTransmitByte 0xA0#8) _ rfl rfl, back (.hpiRearm .ack true) _ rfl rfl, back .sei _ rfl rfl⟩

/-! ### Reserved bytes, the status table, the address byte -/

/-- The conditions of R107, as `decodeCmd` tests them one after the other. -/
theorem decodeCmd_eq_reserved_iff (b : Byte) :
    decodeCmd b = .cmdReserved b ↔
      b.extractLsb' 6 2 ≠ 0#2 ∨ (b.getLsbD 3 = true ∧ b.extractLsb' 0 3 ≠ 1#3) ∨
        (b.extractLsb' 4 2 ≠ 0#2 ∧ b.extractLsb' 0 3 ≠ 3#3 ∧ b.extractLsb' 0 3 ≠ 4#3) := by
  simp only [decodeCmd]
  split_ifs with hres hdir hframing
  · simp [hres]
  · simp [hdir]
  · simp [hframing]
  all_goals
    simp only [false_iff]
    tauto

/-- The two reserved bits of R103. -/
theorem reservedBits_ne_zero_iff (b : Byte) :
    b.extractLsb' 6 2 ≠ 0#2 ↔ b.getLsbD 6 = true ∨ b.getLsbD 7 = true := by
  revert b; decide

/-- Settles O5: the decoder's tests are R107's conditions, and the legal bytes are listed. -/
theorem reservedCommandBytes : Obligations.ReservedCommandBytes := by
  unfold Obligations.ReservedCommandBytes
  refine ⟨fun b => ?_, fun b => decodeCmd_legal.symm.trans List.contains_iff_mem, fun _ _ => rfl⟩
  rw [decodeCmd_eq_reserved_iff, reservedBits_ne_zero_iff, or_assoc]

theorem classify_ne_unknown_iff {b : Byte} : classify b ≠ .unknown ↔ b ∈ namedStatusBytes := by
  rw [Ne, ← classify_unknown, Bool.not_eq_false, List.contains_iff_mem]

/-- A named byte stands in R97's table beside its name. -/
theorem classify_mem_statusTable {b : Byte} (h : classify b ≠ .unknown) : (b, classify b) ∈ statusTable := by
  obtain ⟨p, hp, rfl⟩ := List.mem_map.mp (show b ∈ statusTable.map Prod.fst from classify_ne_unknown_iff.mp h)
  rwa [classify_named p hp]

/-- Settles O6: a name fixes its row of R97's table, because no two rows share a name. -/
theorem classificationIsTotalAndInjective : Obligations.ClassificationIsTotalAndInjective := by
  unfold Obligations.ClassificationIsTotalAndInjective
  refine ⟨fun b => classify_ne_unknown_iff, fun a b ha hab => ?_⟩
  have hrow : (a, classify a) = (b, classify b) :=
    List.inj_on_of_nodup_map statusTable_injective.2 (classify_mem_statusTable ha)
      (classify_mem_statusTable (hab ▸ ha)) hab
  exact congrArg Prod.fst hrow

/-- Appending a bit is shifting by one and setting bit 0 (R90). -/
theorem addrByte_eq_or (a : BusAddr) (d : Direction) :
    addrByte a d = (a.setWidth 8 <<< 1) ||| (BitVec.ofBool d.bit).setWidth 8 :=
  (BitVec.setWidth_eq _).symm.trans BitVec.setWidth_append_eq_shiftLeft_setWidth_or

/-- Settles O7: the byte of either direction, whose bit is 0 or 1. -/
theorem addressByteCarriesDirectionInBitZero : Obligations.AddressByteCarriesDirectionInBitZero := by
  unfold Obligations.AddressByteCarriesDirectionInBitZero
  exact fun a => ⟨addrByte_eq_or a .write, addrByte_eq_or a .read⟩

end Sys2Proof.Machine
end

section
/-! SUPPORT. The statements about `PHY`'s side of the interface: a wait nobody answers, an event in the latch, the byte it
brings, and a write session of a remote master. -/

namespace Sys2Proof.Machine

/-! ### Turns nobody takes (R126, R237) -/

theorem poll_unbounded {s : State} (h : s.waitLimit = none) : poll s = s := by
  rw [poll, h]

theorem step_idleTurn {s : State} (hlimit : s.waitLimit = none) (hidle : ∀ turn ∈ s.script, turn = .idle) :
    step s = .next { s with script := s.script.tail } := by
  obtain ⟨script, _⟩ := s
  cases script with
  | nil => exact congrArg Host.Outcome.next (poll_unbounded hlimit)
  | cons turn rest =>
    obtain rfl := hidle turn (List.mem_cons_self ..)
    exact congrArg Host.Outcome.next (poll_unbounded hlimit)

theorem run_succ_of_step {s t : State} (h : step s = .next t) (k : Nat) :
    Sys2Proof.core.run (k + 1) s = Sys2Proof.core.run k t := by
  have hcore : Sys2Proof.core.step s = .next t := h
  simp only [Host.Core.run, hcore]

/-- Settles O9, by induction on the number of turns: each takes the first turn, if one is left, off the script. -/
theorem unansweredWaitHangs : Obligations.UnansweredWaitHangs := by
  unfold Obligations.UnansweredWaitHangs
  intro s k hstrict hlimit hidle
  induction k generalizing s with
  | zero => rfl
  | succ k ih =>
    rw [run_succ_of_step (step_idleTurn hlimit hidle),
      ih { s with script := s.script.tail } hstrict hlimit fun turn ht => hidle turn (List.mem_of_mem_tail ht)]
    simp only [List.drop_tail]

/-! ### The event latch (R131, R132, R136) -/

/-- The latch has taken a status and its byte. -/
def latchEvent (status rx : Byte) (s : State) : State :=
  { s with slv := { s.slv with evtStatus := status, evtRx := rx, evtPending := true } }

theorem eventAllowed_iff {s : State} :
    eventAllowed s = true ↔ s.slv.sEn = true ∧ s.phy.listening = true ∧ s.slv.evtPending = false := by
  simp [eventAllowed, and_assoc]

theorem exec_phyRaiseEvent_allowed (status rx : Byte) {s : State} (h : eventAllowed s = true) :
    exec (.phyRaiseEvent status rx) s = .next (latchEvent status rx s) :=
  if_pos h

theorem exec_phyRaiseEvent_not_allowed (status rx : Byte) {s : State} (h : ¬ eventAllowed s = true) :
    exec (.phyRaiseEvent status rx) s = .refused .eventNotAllowed :=
  if_neg h

/-- Settles O44: the two conditions are those under which the raise is allowed and their complement. -/
theorem eventIsLatchedOneDeep : Obligations.EventIsLatchedOneDeep := by
  unfold Obligations.EventIsLatchedOneDeep
  refine fun s status rx _ => ⟨fun hen hlisten hpend => ?_, fun hstop => ?_⟩
  · exact exec_phyRaiseEvent_allowed status rx (eventAllowed_iff.mpr ⟨hen, hlisten, hpend⟩)
  · refine exec_phyRaiseEvent_not_allowed status rx fun hallowed => ?_
    obtain ⟨hen, hlisten, hpend⟩ := eventAllowed_iff.mp hallowed
    simp [hen, hlisten, hpend] at hstop

/-! ### The rows that do not read the received byte (R132, R180) -/

/-- Another byte in `EVT_RX`. -/
def withRx (b : Byte) (s : State) : State := { s with slv := { s.slv with evtRx := b } }

/-- An effect that neither reads nor writes `EVT_RX`. -/
def IgnoresRx (f : State → State) : Prop := ∀ (b : Byte) (s : State), f (withRx b s) = withRx b (f s)

theorem rowAddressMatched_ignoresRx : IgnoresRx rowAddressMatched := fun _ _ => rfl
theorem rowEndRead_ignoresRx : IgnoresRx rowEndRead := fun _ _ => rfl
theorem rowStop_ignoresRx : IgnoresRx rowStop := fun _ _ => rfl
theorem rowRecover_ignoresRx : IgnoresRx rowRecover := fun _ _ => rfl

theorem loadTx_ignoresRx (i : Byte) : IgnoresRx (loadTx i) := by
  intro b s
  unfold loadTx
  by_cases hin : inRange i s.slv.cap = true
  · cases hcell : s.array.read i.toNat with
    | none => simp [withRx, hin, hcell, loadFree]
    | some v => simp [withRx, hin, hcell]
  · simp [withRx, hin, loadFree, setFault]

theorem rowLoad_ignoresRx : IgnoresRx rowLoad := by
  intro b s
  have hload := loadTx_ignoresRx s.slv.index b s
  unfold rowLoad
  rw [show (withRx b s).slv.index = s.slv.index from rfl, hload]
  rfl

/-- The four cells of the table for the two data-received statuses (R184, R187 to R189). -/
def dataReceivedRows : List Instr :=
  [.evtStSrDataAckAwaitingIndex, .evtStSrDataAckReceivingData, .evtStSrDataNackReceivingData,
    .evtStSrDataNackAwaitingIndex]

theorem classify_eq_srDataAck {c : Byte} : classify c = .stSrDataAck ↔ c = 0x80#8 := by revert c; decide

theorem classify_eq_srDataNack {c : Byte} : classify c = .stSrDataNack ↔ c = 0x88#8 := by revert c; decide

/-- R181: only the two data-received statuses select one of the four cells. -/
theorem decodeEvt_not_mem_dataReceivedRows {code : Byte} (hack : code ≠ 0x80#8) (hnack : code ≠ 0x88#8)
    (ph : ReceivePhase) : decodeEvt code ph ∉ dataReceivedRows := by
  rw [Ne, ← classify_eq_srDataAck] at hack
  rw [Ne, ← classify_eq_srDataNack] at hnack
  cases h : classify code with
  | stSrDataAck => exact absurd h hack
  | stSrDataNack => exact absurd h hnack
  | _ => simp [decodeEvt, h, dataReceivedRows]

/-- R181: a row that ran is the one the latched status and the phase select. -/
theorem exec_row_selected {i : Instr} {s t : State} (hi : isRow i = true) (h : exec i s = .next t) :
    decodeEvt s.slv.evtStatus s.slv.sPhase = i := by
  obtain ⟨f, hf, -⟩ := exec_isRow hi
  obtain ⟨hcheck, -⟩ := guarded_next_iff.mp (hf s ▸ h)
  obtain ⟨-, -, -, hrow⟩ := handlerCheck_none.mp hcheck
  exact hrow

/-- Every other row's effect ignores the received byte. -/
theorem exec_isRow_ignoresRx {i : Instr} (hi : isRow i = true) (hdata : i ∉ dataReceivedRows) :
    ∃ f : State → State, (∀ s, exec i s = guarded (handlerCheck i s) (.next (f s))) ∧ IgnoresRx f := by
  cases i with
  | evtStSrSlaAck => exact ⟨_, fun _ => rfl, rowAddressMatched_ignoresRx⟩
  | evtStSrDataAckAwaitingIndex | evtStSrDataAckReceivingData | evtStSrDataNackReceivingData
  | evtStSrDataNackAwaitingIndex => simp [dataReceivedRows] at hdata
  | evtStStSlaAck | evtStStDataAck => exact ⟨_, fun _ => rfl, rowLoad_ignoresRx⟩
  | evtStStDataNack | evtStStLastData => exact ⟨_, fun _ => rfl, rowEndRead_ignoresRx⟩
  | evtStSrStop => exact ⟨_, fun _ => rfl, rowStop_ignoresRx⟩
  | evtStBusError | evtStStart | evtStRepStart | evtStMtSlaAck | evtStMtSlaNack | evtStMtDataAck | evtStMtDataNack
  | evtStMrSlaAck | evtStMrSlaNack | evtStMrDataAck | evtStMrDataNack | evtUnknown =>
    exact ⟨_, fun _ => rfl, rowRecover_ignoresRx⟩
  | _ => simp [isRow] at hi

/-- Settles O41: the row that ran is none of the four cells of the data-received statuses, and its check does not look at
the byte either. -/
theorem receivedByteMattersToDataRowsOnly : Obligations.ReceivedByteMattersToDataRowsOnly := by
  unfold Obligations.ReceivedByteMattersToDataRowsOnly
  intro i s t b hi hack hnack hexec _
  have hdata : i ∉ dataReceivedRows := exec_row_selected hi hexec ▸ decodeEvt_not_mem_dataReceivedRows hack hnack _
  obtain ⟨f, hf, hrx⟩ := exec_isRow_ignoresRx hi hdata
  obtain ⟨hcheck, rfl⟩ := guarded_next_iff.mp (hf s ▸ hexec)
  have hcheckRx : handlerCheck i (withRx b s) = none := hcheck
  exact (hf (withRx b s)).trans (guarded_next_iff.mpr ⟨hcheckRx, (hrx b s).symm⟩)

/-! ### An event of a remote master, raised and delivered -/

/-- An event can be raised, and is then delivered (R132, R180). -/
structure TakesEvent (s : State) : Prop where
  sEn : s.slv.sEn = true
  evtIe : s.slv.evtIe = true
  evtPending : s.slv.evtPending = false
  listening : s.phy.listening = true

theorem isRow_decodeEvt (code : Byte) (ph : ReceivePhase) : isRow (decodeEvt code ph) = true := by
  unfold decodeEvt
  split <;> rfl

/-- The event runs the row its status selects in the phase it meets, from the state in which it is latched. -/
theorem TakesEvent.event_eq {s : State} (hs : TakesEvent s) (code rx : Byte) :
    event code rx s = exec (decodeEvt code s.slv.sPhase) (latchEvent code rx s) := by
  rw [event, exec_phyRaiseEvent_allowed code rx (eventAllowed_iff.mpr ⟨hs.sEn, hs.listening, hs.evtPending⟩)]
  rfl

/-- A run of the handler leaves the role ready for the next event (R182, R199). -/
theorem TakesEvent.after_event {s t : State} (hs : TakesEvent s) {code rx : Byte} (h : event code rx s = .next t) :
    TakesEvent t := by
  have hframe := exec_row_frame (isRow_decodeEvt _ _) (hs.event_eq code rx ▸ h)
  exact ⟨hframe.sEn.trans hs.sEn, hframe.evtIe.trans hs.evtIe, hframe.evtPending, hframe.phy ▸ hs.listening⟩

/-- The event's row answers with its effect. -/
theorem TakesEvent.event_row {s : State} (hs : TakesEvent s) {code : Byte} {row : Instr} {f : State → State}
    (hexec : ∀ u, exec row u = guarded (handlerCheck row u) (.next (f u))) (hrow : decodeEvt code s.slv.sPhase = row)
    (rx : Byte) : event code rx s = .next (f (latchEvent code rx s)) := by
  have hdel : Delivers (latchEvent code rx s) code := ⟨hs.sEn, hs.evtIe, rfl, rfl⟩
  rw [hs.event_eq, hrow, hexec, guarded_handlerCheck hdel hrow]

/-! ### A write session (R137, R187, R188, R194) -/

/-- The session awaits a data byte for the cell at the cursor, and `ACK_NEXT` is what R187 makes it there. -/
structure AwaitsByte (s : State) : Prop extends TakesEvent s where
  sPhase : s.slv.sPhase = .receivingData
  inside : s.slv.index.toNat < s.slv.cap.toNat
  ackNext : s.slv.ackNext = receiveAck s.slv.index s.slv.cap

/-- One byte has been stored at the cursor and nowhere else, with no fault. -/
structure StoresByte (d : Byte) (s t : State) : Prop where
  cap : t.slv.cap = s.slv.cap
  sfault : t.slv.sfault = s.slv.sfault
  cell : t.array.read s.slv.index.toNat = some d
  others : ∀ a, a ≠ s.slv.index.toNat → t.array.read a = s.array.read a

/-- Data bytes have been stored in order from the cursor and nowhere else, with no fault; the cursor is one past the last
one, or the session is over because the file is full. -/
structure StoresBytes (ds : List Byte) (s t : State) : Prop where
  sfault : t.slv.sfault = s.slv.sfault
  cells : ∀ (k : Nat) (h : k < ds.length), t.array.read (s.slv.index.toNat + k) = some ds[k]
  others : ∀ a, a < s.slv.index.toNat ∨ s.slv.index.toNat + ds.length ≤ a → t.array.read a = s.array.read a
  index : t.slv.index.toNat =
    if ds.length = s.slv.cap.toNat - s.slv.index.toNat then 0 else s.slv.index.toNat + ds.length
  sPhase : t.slv.sPhase =
    if ds.length = s.slv.cap.toNat - s.slv.index.toNat then .awaitingIndex else .receivingData

theorem receiveAck_of_lt {i cap : Byte} (h : i.toNat + 1 < cap.toNat) : receiveAck i cap = .ack :=
  if_pos (by omega)

theorem receiveAck_of_ge {i cap : Byte} (h : cap.toNat ≤ i.toNat + 1) : receiveAck i cap = .nack :=
  if_neg (by omega)

theorem dataBytes_cons_ack {d : Byte} {ds : List Byte} {s t : State} (hack : s.slv.ackNext = .ack)
    (h : event 0x80#8 d s = .next t) : dataBytes (d :: ds) s = dataBytes ds t := by
  simp only [dataBytes, hack, h]

theorem dataBytes_cons_nack {d : Byte} {ds : List Byte} {s : State} (hack : s.slv.ackNext = .nack) :
    dataBytes (d :: ds) s = event 0x88#8 d s := by
  simp only [dataBytes, hack]

/-- R187: an acknowledged byte is stored, and the session awaits the next one if the file has room for it. -/
theorem AwaitsByte.dataAcked {s : State} (hs : AwaitsByte s) (d : Byte) :
    ∃ t, event 0x80#8 d s = .next t ∧ StoresByte d s t ∧ t.slv.index = s.slv.index + 1#8 ∧
      t.slv.sPhase = .receivingData ∧ t.slv.ackNext = receiveAck (s.slv.index + 1#8) s.slv.cap := by
  obtain ⟨m, hcell, hothers, hstore⟩ := arrayStore_inside d (s := latchEvent 0x80#8 d s) hs.inside
  have hrun : event 0x80#8 d s = .next (rowStore (latchEvent 0x80#8 d s)) :=
    hs.event_row (row := .evtStSrDataAckReceivingData) (fun _ => rfl) (by rw [hs.sPhase]; rfl) d
  have hrow : rowStore (latchEvent 0x80#8 d s) =
      rearm (receiveAck (s.slv.index + 1#8) s.slv.cap) false
        (setCursor (s.slv.index + 1#8) .receivingData { latchEvent 0x80#8 d s with array := m }) := by
    rw [← hstore]
    rfl
  rw [hrow] at hrun
  exact ⟨_, hrun, ⟨rfl, rfl, hcell, hothers⟩, rfl, rfl, rfl⟩

/-- R188: a byte not acknowledged is stored too, and ends the session. -/
theorem AwaitsByte.dataNacked {s : State} (hs : AwaitsByte s) (d : Byte) :
    ∃ t, event 0x88#8 d s = .next t ∧ StoresByte d s t ∧ t.slv.index = 0#8 ∧
      t.slv.sPhase = .awaitingIndex := by
  obtain ⟨m, hcell, hothers, hstore⟩ := arrayStore_inside d (s := latchEvent 0x88#8 d s) hs.inside
  have hrun : event 0x88#8 d s = .next (rowStoreLast (latchEvent 0x88#8 d s)) :=
    hs.event_row (row := .evtStSrDataNackReceivingData) (fun _ => rfl) (by rw [hs.sPhase]; rfl) d
  have hrow : rowStoreLast (latchEvent 0x88#8 d s) =
      rearm .ack false (setCursor 0#8 .awaitingIndex { latchEvent 0x88#8 d s with array := m }) := by
    rw [← hstore]
    rfl
  rw [hrow] at hrun
  exact ⟨_, hrun, ⟨rfl, rfl, hcell, hothers⟩, rfl, rfl⟩

theorem StoresBytes.nil {s : State} (hs : AwaitsByte s) : StoresBytes [] s s := by
  have hroom : ([] : List Byte).length ≠ s.slv.cap.toNat - s.slv.index.toNat :=
    (Nat.sub_pos_of_lt hs.inside).ne
  exact ⟨rfl, by simp, fun _ _ => rfl, (if_neg hroom).symm, hs.sPhase.trans (if_neg hroom).symm⟩

theorem StoresBytes.last {d : Byte} {s t : State} (hlast : s.slv.index.toNat + 1 = s.slv.cap.toNat)
    (hd : StoresByte d s t) (hindex : t.slv.index = 0#8) (hphase : t.slv.sPhase = .awaitingIndex) :
    StoresBytes [d] s t := by
  have hfull : [d].length = s.slv.cap.toNat - s.slv.index.toNat := by
    simp only [List.length_singleton]
    omega
  refine ⟨hd.sfault, fun k hk => ?_, fun a ha => hd.others a ?_, ?_, ?_⟩
  · obtain rfl : k = 0 := by simpa using hk
    exact hd.cell
  · simp only [List.length_singleton] at ha
    omega
  · rw [if_pos hfull, hindex]
    rfl
  · rw [if_pos hfull, hphase]

theorem StoresBytes.cons {d : Byte} {ds : List Byte} {s u t : State}
    (hinside : s.slv.index.toNat < s.slv.cap.toNat) (hd : StoresByte d s u)
    (hindex : u.slv.index.toNat = s.slv.index.toNat + 1) (hds : StoresBytes ds u t) : StoresBytes (d :: ds) s t := by
  have hfull : (d :: ds).length = s.slv.cap.toNat - s.slv.index.toNat ↔
      ds.length = u.slv.cap.toNat - u.slv.index.toNat := by
    rw [hindex, hd.cap, List.length_cons]
    omega
  refine ⟨hds.sfault.trans hd.sfault, fun k hk => ?_, fun a ha => ?_, ?_, ?_⟩
  · cases k with
    | zero => exact (hds.others _ (.inl (by omega))).trans hd.cell
    | succ k => simpa [hindex, Nat.add_assoc, Nat.add_comm 1] using hds.cells k (by simpa using hk)
  · rw [List.length_cons] at ha
    exact (hds.others a (by omega)).trans (hd.others a (by omega))
  · exact hds.index.trans (if_congr hfull.symm rfl (by rw [hindex, List.length_cons]; omega))
  · exact hds.sPhase.trans (if_congr hfull.symm rfl rfl)

/-- Bytes that fit between the cursor and the end of the file are stored there (R194). -/
theorem AwaitsByte.stores_dataBytes {s : State} (hs : AwaitsByte s) {ds : List Byte}
    (hfit : ds.length ≤ s.slv.cap.toNat - s.slv.index.toNat) :
    ∃ t, dataBytes ds s = .next t ∧ StoresBytes ds s t := by
  induction ds generalizing s with
  | nil => exact ⟨s, rfl, .nil hs⟩
  | cons d ds ih =>
    rw [List.length_cons] at hfit
    by_cases hroom : s.slv.index.toNat + 1 < s.slv.cap.toNat
    · obtain ⟨u, hu, hd, hindex, hphase, hack⟩ := hs.dataAcked d
      have hnext : u.slv.index.toNat = s.slv.index.toNat + 1 := by
        have := s.slv.cap.isLt
        rw [hindex]
        bv_omega
      have hawaits : AwaitsByte u :=
        { hs.after_event hu with
          sPhase := hphase
          inside := by rw [hnext, hd.cap]; exact hroom
          ackNext := by rw [hack, hindex, hd.cap] }
      obtain ⟨t, ht, hds⟩ := ih hawaits (by rw [hnext, hd.cap]; omega)
      exact ⟨t, (dataBytes_cons_ack (hs.ackNext.trans (receiveAck_of_lt hroom)) hu).trans ht,
        .cons hs.inside hd hnext hds⟩
    · have hlast : s.slv.index.toNat + 1 = s.slv.cap.toNat := by
        have := hs.inside
        omega
      obtain rfl : ds = [] := List.eq_nil_of_length_eq_zero (by omega)
      obtain ⟨t, ht, hd, hindex, hphase⟩ := hs.dataNacked d
      exact ⟨t, (dataBytes_cons_nack (hs.ackNext.trans (receiveAck_of_ge (by omega)))).trans ht,
        .last hlast hd hindex hphase⟩

/-- R183, R184: the address match and the offset byte put the cursor at the offset and write no cell. -/
theorem TakesEvent.writeSession_eq {s : State} (hs : TakesEvent s) (r idx : Byte) (ds : List Byte) :
    ∃ u, writeSession r idx ds s = dataBytes ds u ∧ TakesEvent u ∧ u.slv.sPhase = .receivingData ∧
      u.slv.index = idx ∧ u.slv.ackNext = .ack ∧ u.slv.cap = s.slv.cap ∧ u.slv.sfault = s.slv.sfault ∧
      u.array = s.array := by
  have hmatch : event 0x60#8 r s = .next (rowAddressMatched (latchEvent 0x60#8 r s)) :=
    hs.event_row (row := .evtStSrSlaAck) (fun _ => rfl) (by cases s.slv.sPhase <;> rfl) r
  have htakes := hs.after_event hmatch
  have hoffset : event 0x80#8 idx (rowAddressMatched (latchEvent 0x60#8 r s)) =
      .next (rowTakeIndex (latchEvent 0x80#8 idx (rowAddressMatched (latchEvent 0x60#8 r s)))) :=
    htakes.event_row (row := .evtStSrDataAckAwaitingIndex) (fun _ => rfl) rfl idx
  refine ⟨_, ?_, htakes.after_event hoffset, ?_⟩
  · simp only [writeSession, hmatch, hoffset]
  · simp [rowTakeIndex, rowAddressMatched, latchEvent]

/-- Settles O58: the offset leaves room for a byte that is acknowledged, so the session awaits its first byte there. -/
theorem writeSessionStaysInsideTheFile : Obligations.WriteSessionStaysInsideTheFile := by
  unfold Obligations.WriteSessionStaysInsideTheFile
  intro s r idx ds _ hen hie hpend hlisten hidx hfit
  obtain ⟨u, hrun, htakes, hphase, rfl, hack, hcap, hsfault, harray⟩ :=
    TakesEvent.writeSession_eq ⟨hen, hie, hpend, hlisten⟩ r idx ds
  rw [← hcap] at hidx hfit
  have hawaits : AwaitsByte u :=
    { htakes with
      sPhase := hphase
      inside := by omega
      ackNext := by rw [hack, receiveAck_of_lt (by omega)] }
  obtain ⟨t, ht, hstored⟩ := hawaits.stores_dataBytes hfit
  rw [← hcap, ← hsfault, ← harray]
  exact ⟨t, hrun.trans ht, hstored.sfault, hstored.cells, hstored.others, hstored.index, hstored.sPhase⟩

end Sys2Proof.Machine
end

section
/-! SUPPORT. The master's commands and the answers to them one step at a time: the refusals, how each command begins, what
each answer leads to, and how a body ends. -/

namespace Sys2Proof.Machine

/-! ### The refusals, in the order of the checks (R170, R213, R238) -/

theorem masterCheck_notConfigured {s : State} (b : Bool) (hready : ForegroundReady s) (hdone : s.clk.done = false) :
    masterCheck b s = some .notConfigured := by
  simp [masterCheck, foregroundWaits_eq_false.mpr hready, hdone]

theorem masterCheck_slaveEnabled {s : State} (b : Bool) (hready : ForegroundReady s) (hdone : s.clk.done = true)
    (hen : s.slv.sEn = true) : masterCheck b s = some .masterWhileSlaveEnabled := by
  simp [masterCheck, foregroundWaits_eq_false.mpr hready, hdone, hen]

theorem masterCheck_unwritten {s : State} {b : Bool} (hready : MasterReady s) (hb : b = false) :
    masterCheck b s = some .unwrittenOperand := by
  obtain ⟨hfg, hdone, hoff⟩ := hready
  simp [masterCheck, foregroundWaits_eq_false.mpr hfg, hdone, hoff, hb]

/-- A master command whose check passes has its effect. -/
theorem guarded_masterCheck {s : State} {b : Bool} (hready : MasterReady s) (hb : b = true) (o : Outcome) :
    guarded (masterCheck b s) o = o := by
  rw [masterCheck_none.mpr ⟨hready, hb⟩, guarded_none]

/-- The commands of the master, in the framings of R93. -/
def masterCommands : List Instr :=
  [.mStart .write, .mStart .read, .mStop, .mWrite .none, .mWrite .start, .mWrite .stop, .mWrite .startAndStop,
    .mRead .none, .mRead .start, .mRead .stop, .mRead .startAndStop, .mTransfer]

/-- Every command of the master stands behind the one check of R170. -/
theorem exec_masterCommand {i : Instr} (hi : i ∈ masterCommands) (s : State) :
    ∃ b o, exec i s = guarded (masterCheck b s) o := by
  simp only [masterCommands, List.mem_cons, List.not_mem_nil, or_false] at hi
  rcases hi with rfl | rfl | rfl | rfl | rfl | rfl | rfl | rfl | rfl | rfl | rfl | rfl <;> exact ⟨_, _, rfl⟩

theorem bodyOperands_eq_true {f : Framing} {o : Operands} :
    bodyOperands f o = true ↔ o.lenWritten = true ∧ (f.opens = true → o.addrWritten = true) := by
  cases hf : f.opens <;> simp [bodyOperands, hf]

theorem bodyOperands_eq_false {f : Framing} {o : Operands} :
    bodyOperands f o = false ↔ o.lenWritten = false ∨ (f.opens = true ∧ o.addrWritten = false) := by
  simp only [bodyOperands, Bool.and_eq_false_iff, Bool.or_eq_false_iff, Bool.not_eq_false']

theorem transferOperands_eq_false {o : Operands} :
    transferOperands o = false ↔ o.addrWritten = false ∨ o.lenWritten = false ∨ o.ilenWritten = false := by
  simp only [transferOperands, Bool.and_eq_false_iff, or_assoc]

/-- Settles O16: each refusal by the first test of its command's check that fails. -/
theorem commandsAreRefusedByName : Obligations.CommandsAreRefusedByName := by
  unfold Obligations.CommandsAreRefusedByName
  intro s hready
  have hfg := guarded_foregroundCheck hready
  refine ⟨fun i hi => ?_, fun hdone => ?_, fun hoff hopnd => ?_, fun hdone hopnd => ?_, fun hdone hoff => ?_⟩
  · obtain ⟨b, o, hexec⟩ := exec_masterCommand hi s
    rw [hexec]
    refine ⟨fun hdone => ?_, fun hdone hen => ?_⟩
    · rw [masterCheck_notConfigured b hready hdone, guarded_some]
    · rw [masterCheck_slaveEnabled b hready hdone hen, guarded_some]
  · exact (hfg _).trans (by simp [hdone])
  · have hunwritten : configureOperands s.opnd = false := Bool.and_eq_false_iff.mpr hopnd
    exact (hfg _).trans (by simp [hoff, hunwritten])
  · have hunwritten : slaveStartOperands s.opnd = false := Bool.and_eq_false_iff.mpr hopnd
    exact (hfg _).trans (by simp [hdone, hunwritten])
  · have hmaster : MasterReady s := ⟨hready, hdone, hoff⟩
    have hrefuse {b : Bool} (hb : b = false) (o : Outcome) : guarded (masterCheck b s) o = .refused .unwrittenOperand := by
      rw [masterCheck_unwritten hmaster hb, guarded_some]
    refine ⟨fun d haddr => hrefuse haddr _, fun f hopnd => ?_, fun hopnd => ?_, fun f hlen haddr hzero => ?_⟩
    · exact ⟨hrefuse (bodyOperands_eq_false.mpr hopnd) _, hrefuse (bodyOperands_eq_false.mpr hopnd) _⟩
    · exact hrefuse (transferOperands_eq_false.mpr hopnd) _
    · exact (guarded_masterCheck hmaster (bodyOperands_eq_true.mpr ⟨hlen, haddr⟩) _).trans (by simp [hzero])

/-! ### How a command begins (R150 to R167) -/

/-- Settles O17: the check passes, and the effect is the one of R150. -/
theorem masterStartRequestsOneStart : Obligations.MasterStartRequestsOneStart := by
  unfold Obligations.MasterStartRequestsOneStart
  exact fun s d _ hready haddr => guarded_masterCheck hready haddr _

/-- Settles O18: the check passes, and the effect is the primitive alone. -/
theorem masterStopIsOneStopRequest : Obligations.MasterStopIsOneStopRequest := by
  unfold Obligations.MasterStopIsOneStopRequest
  exact fun s _ hready => guarded_masterCheck hready rfl _

theorem toNat_eq_zero_iff {b : Byte} : b.toNat = 0 ↔ b = 0#8 := by
  rw [BitVec.toNat_eq]
  rfl

theorem toNat_pos_iff {b : Byte} : 0 < b.toNat ↔ b ≠ 0#8 := Nat.pos_iff_ne_zero.trans (not_congr toNat_eq_zero_iff)

theorem Framing.opens_eq_true {f : Framing} : f.opens = true ↔ f = .start ∨ f = .startAndStop := by
  cases f <;> simp [Framing.opens]

theorem Framing.opens_eq_false {f : Framing} : f.opens = false ↔ f = .none ∨ f = .stop := by
  cases f <;> simp [Framing.opens]

theorem exec_mWrite_opens {s : State} {f : Framing} (hready : MasterReady s) (hlen : s.opnd.lenWritten = true)
    (haddr : f.opens = true → s.opnd.addrWritten = true) (hf : f.opens = true) :
    exec (.mWrite f) s = .next (beginStart .write (latchBody opMWrite f s)) :=
  (guarded_masterCheck hready (bodyOperands_eq_true.mpr ⟨hlen, haddr⟩) _).trans (if_pos hf)

theorem exec_mWrite_body {s : State} {f : Framing} (hready : MasterReady s) (hlen : s.opnd.lenWritten = true)
    (hf : f.opens = false) : exec (.mWrite f) s = sendFrom 0 (latchBody opMWrite f s) :=
  (guarded_masterCheck hready (bodyOperands_eq_true.mpr ⟨hlen, by simp [hf]⟩) _).trans (if_neg (by simp [hf]))

theorem exec_mRead_opens {s : State} {f : Framing} (hready : MasterReady s) (hlen : s.opnd.lenWritten = true)
    (haddr : f.opens = true → s.opnd.addrWritten = true) (hpos : s.opnd.aLen ≠ 0#8) (hf : f.opens = true) :
    exec (.mRead f) s = .next (beginStart .read (latchBody opMRead f s)) :=
  (guarded_masterCheck hready (bodyOperands_eq_true.mpr ⟨hlen, haddr⟩) _).trans
    ((if_neg (mt toNat_eq_zero_iff.mp hpos)).trans (if_pos hf))

theorem exec_mRead_body {s : State} {f : Framing} (hready : MasterReady s) (hlen : s.opnd.lenWritten = true)
    (hpos : s.opnd.aLen ≠ 0#8) (hf : f.opens = false) :
    exec (.mRead f) s = .next (receiveFrom 0 (latchBody opMRead f s)) :=
  (guarded_masterCheck hready (bodyOperands_eq_true.mpr ⟨hlen, by simp [hf]⟩) _).trans
    ((if_neg (mt toNat_eq_zero_iff.mp hpos)).trans (if_neg (by simp [hf])))

/-- `M_TRANSFER` has latched its operands and enters the write phase (R163). -/
def enterWritePhase (s : State) : State :=
  beginStart .write { latchTransfer s with mst := { (latchTransfer s).mst with mRan := true, mCnt := 0#8 } }

/-- The three operands of `M_TRANSFER` have been written (R20). -/
theorem transferOperands_eq_true {o : Operands} (haddr : o.addrWritten = true) (hlen : o.lenWritten = true)
    (hilen : o.ilenWritten = true) : transferOperands o = true := by
  simp [transferOperands, haddr, hlen, hilen]

theorem exec_mTransfer_writes {s : State} (hready : MasterReady s) (hopnd : transferOperands s.opnd = true)
    (hpos : s.opnd.aLen ≠ 0#8) : exec .mTransfer s = .next (enterWritePhase s) :=
  (guarded_masterCheck hready hopnd _).trans (if_neg (mt toNat_eq_zero_iff.mp hpos))

theorem exec_mTransfer_reads {s : State} (hready : MasterReady s) (hopnd : transferOperands s.opnd = true)
    (hzero : s.opnd.aLen = 0#8) : exec .mTransfer s = .next (readPhase (latchTransfer s)) :=
  (guarded_masterCheck hready hopnd _).trans (if_pos (toNat_eq_zero_iff.mpr hzero))

/-! ### How a body goes on and how it ends (R157, R160, R163) -/

/-- Byte `i` of a write body has been sent and its answer is awaited (R157). -/
def sendByte (i : Nat) (b : Byte) (s : State) : State :=
  { transmitByte b s with mst := { (transmitByte b s).mst with mCnt := BitVec.ofNat 8 i, mState := .txWait } }

theorem sendFrom_written {i : Nat} {b : Byte} {s : State} (hi : i < s.mst.mLen.toNat)
    (hb : s.outbuf.read i = some b) : sendFrom i s = .next (sendByte i b s) := by
  simp [sendFrom, hi, hb, sendByte]

theorem sendFrom_unwritten {i : Nat} {s : State} (hi : i < s.mst.mLen.toNat) (hb : s.outbuf.read i = none) :
    sendFrom i s = .fault (.unwrittenCell .outbuf (BitVec.ofNat 8 i)) := by
  simp [sendFrom, hi, hb]

theorem sendFrom_end {i : Nat} {s : State} (hi : s.mst.mLen.toNat ≤ i) : sendFrom i s = .next (writeDone s) :=
  if_neg hi.not_gt

theorem writeDone_command {s : State} (hop : s.mst.mOp ≠ opMTransfer) :
    writeDone s = returnResult .ok (closeIf s.mst.mFraming.closes s) :=
  if_neg hop

theorem readDone_command {s : State} (hop : s.mst.mOp ≠ opMTransfer) :
    readDone s = returnResult .ok (closeIf s.mst.mFraming.closes s) :=
  if_neg hop

theorem writeDone_transfer {s : State} (hop : s.mst.mOp = opMTransfer) : writeDone s = readPhase s := if_pos hop

theorem readDone_transfer {s : State} (hop : s.mst.mOp = opMTransfer) : readDone s = finishTransfer s := if_pos hop

/-- The read phase of `M_TRANSFER` has been entered (R163). -/
def enterReadPhase (s : State) : State :=
  beginStart .read { s with mst := { s.mst with mRan := true, mXph := true, mCnt := 0#8 } }

theorem readPhase_enters {s : State} (h : s.mst.mIlen ≠ 0#8) : readPhase s = enterReadPhase s :=
  if_neg (mt toNat_eq_zero_iff.mp h)

theorem readPhase_skipped {s : State} (h : s.mst.mIlen = 0#8) : readPhase s = finishTransfer s :=
  if_pos (toNat_eq_zero_iff.mpr h)

/-- A returned command has issued the closing stop, if there is one, and nothing else (R157, R163). -/
theorem returnResult_closeIf (b : Bool) (s : State) :
    returnResult .ok (closeIf b s) = { s with
      mst := { s.mst with result := .ok, resultValid := true, mBusy := false, mState := .idle }
      trace := if b then .issueStop :: s.trace else s.trace } := by
  cases b <;> rfl

/-- Settles O27: by whether the command is `M_TRANSFER`, and then by whether a read phase is to come. -/
theorem endOfBodyClosesOrGoesOn : Obligations.EndOfBodyClosesOrGoesOn := by
  unfold Obligations.EndOfBodyClosesOrGoesOn
  refine fun s _ => ⟨fun hop => ⟨?_, ?_⟩, fun hop => ⟨fun hread => ?_, fun hread => ?_, ?_⟩⟩
  · rw [writeDone_command hop, readDone_command hop]
  · rw [readDone_command hop, returnResult_closeIf]
    cases s.mst.mFraming <;> rfl
  · rw [writeDone_transfer hop, readPhase_enters hread]
    rfl
  · rw [writeDone_transfer hop, readPhase_skipped hread, readDone_transfer hop]
  · rw [readDone_transfer hop, finishTransfer, returnResult_closeIf]

/-- Settles O19: an opening framing requests the start, another one begins the body at once. -/
theorem masterWriteBegins : Obligations.MasterWriteBegins := by
  unfold Obligations.MasterWriteBegins
  refine fun s f _ hready hlen => ⟨fun hf haddr => ?_, fun hf => ⟨fun hzero => ?_, fun b hpos hb => ?_, fun hpos hb => ?_⟩⟩
  · rw [exec_mWrite_opens hready hlen (fun _ => haddr) (Framing.opens_eq_true.mpr hf)]
    rcases hf with rfl | rfl <;> rfl
  · rw [exec_mWrite_body hready hlen (Framing.opens_eq_false.mpr hf), sendFrom_end (by simp [hzero]),
      writeDone_command (by simp [opMWrite, opMTransfer]), returnResult_closeIf]
    simp only [latchBody_mst, hzero]
    rcases hf with rfl | rfl <;> rfl
  · have hlt : 0 < (latchBody opMWrite f s).mst.mLen.toNat := toNat_pos_iff.mpr hpos
    rw [exec_mWrite_body hready hlen (Framing.opens_eq_false.mpr hf), sendFrom_written hlt hb]
    rcases hf with rfl | rfl <;> rfl
  · have hlt : 0 < (latchBody opMWrite f s).mst.mLen.toNat := toNat_pos_iff.mpr hpos
    rw [exec_mWrite_body hready hlen (Framing.opens_eq_false.mpr hf), sendFrom_unwritten hlt hb]

theorem readPolicy_zero (b : Byte) : readPolicy 0 b.toNat = if b = 1#8 then .nack else .ack :=
  if_congr (by bv_omega) rfl rfl

theorem readLen_eq (m : Master) : readLen m = (if m.mOp = 5#3 then m.mIlen else m.mLen).toNat :=
  (apply_ite BitVec.toNat _ _ _).symm

/-- Settles O20: an opening framing requests the start, another one asks for the first byte at once. -/
theorem masterReadBegins : Obligations.MasterReadBegins := by
  unfold Obligations.MasterReadBegins
  refine fun s f _ hready hlen hpos => ⟨fun hf haddr => ?_, fun hf => ?_⟩
  · rw [exec_mRead_opens hready hlen (fun _ => haddr) hpos (Framing.opens_eq_true.mpr hf)]
    rcases hf with rfl | rfl <;> rfl
  · rw [exec_mRead_body hready hlen hpos (Framing.opens_eq_false.mpr hf), ← readPolicy_zero]
    rcases hf with rfl | rfl <;> rfl

/-- Settles O21: by which of the two lengths is 0. -/
theorem masterTransferBegins : Obligations.MasterTransferBegins := by
  unfold Obligations.MasterTransferBegins
  intro s _ hready haddr hlen hilen
  have hopnd := transferOperands_eq_true haddr hlen hilen
  refine ⟨fun hpos => exec_mTransfer_writes hready hopnd hpos, fun hzero hread => ?_, fun hzero hread => ?_⟩
  · rw [exec_mTransfer_reads hready hopnd hzero, readPhase_enters hread, enterReadPhase]
    simp only [latchTransfer_mst, hzero]
    rfl
  · rw [exec_mTransfer_reads hready hopnd hzero, readPhase_skipped hread, finishTransfer, returnResult_closeIf]
    simp only [latchTransfer_mst, hzero, hread]
    rfl

/-! ### What an answer leads to (R126, R167) -/

theorem completeStep_startWait {code rx : Byte} {b : BusStep} {s : State} (hm : s.mst.mState = .startWait)
    (hstep : s.phy.step = some b) :
    completeStep code rx s = .next (startCompleted code (recordAnswer b code rx s)) := by
  simp [completeStep, hstep, hm]

theorem completeStep_addrWait {code rx : Byte} {b : BusStep} {s : State} (hm : s.mst.mState = .addrWait)
    (hstep : s.phy.step = some b) : completeStep code rx s = addressCompleted code (recordAnswer b code rx s) := by
  simp [completeStep, hstep, hm]

theorem completeStep_txWait {code rx : Byte} {b : BusStep} {s : State} (hm : s.mst.mState = .txWait)
    (hstep : s.phy.step = some b) : completeStep code rx s = sendCompleted code (recordAnswer b code rx s) := by
  simp [completeStep, hstep, hm]

theorem completeStep_rxWait {code rx : Byte} {b : BusStep} {s : State} (hm : s.mst.mState = .rxWait)
    (hstep : s.phy.step = some b) :
    completeStep code rx s = .next (receiveCompleted rx (recordAnswer b code rx s)) := by
  simp [completeStep, hstep, hm]

/-- R157, R160: how the body of a direction begins. -/
def beginBody (d : Direction) (s : State) : Outcome :=
  match d with
  | .write => sendFrom 0 s
  | .read => .next (receiveFrom 0 s)

/-- The status that acknowledges the address in a direction (R97, R98). -/
def addressAck (d : Direction) : Byte :=
  match d with
  | .write => 0x18#8
  | .read => 0x40#8

theorem completeStep_addressAcked {code rx : Byte} {d : Direction} {b : BusStep} {s : State}
    (hm : s.mst.mState = .addrWait) (hstep : s.phy.step = some b) (hop : s.mst.mOp ≠ opMStart) (hd : s.mst.mDir = d)
    (hcode : code = addressAck d) : completeStep code rx s = beginBody d (recordAnswer b code rx s) := by
  subst hd
  rw [completeStep_addrWait hm hstep]
  exact (if_pos (addressAcked_iff.mpr hcode)).trans (if_neg hop)

theorem completeStep_addressRejected {code rx : Byte} {b : BusStep} {s : State} (hm : s.mst.mState = .addrWait)
    (hstep : s.phy.step = some b) (hcode : code ≠ addressAck s.mst.mDir) :
    completeStep code rx s = .next (raiseFailure .addressRejected (issueStop (recordAnswer b code rx s))) := by
  rw [completeStep_addrWait hm hstep]
  exact if_neg (mt addressAcked_iff.mp hcode)

theorem sendCompleted_acked (s : State) : sendCompleted 0x28#8 s = sendFrom (s.mst.mCnt.toNat + 1) s := if_pos rfl

theorem sendCompleted_rejected {code : Byte} (s : State) (h : code ≠ 0x28#8) :
    sendCompleted code s = .next (raiseFailure .dataRejected s) :=
  if_neg (mt dataAcked_iff.mp h)

/-- Settles O24: an acknowledged address begins the body of its direction. -/
theorem acknowledgedAddressBeginsTheBody : Obligations.AcknowledgedAddressBeginsTheBody := by
  unfold Obligations.AcknowledgedAddressBeginsTheBody
  intro i code rx b s _ hi hm hstep hop
  rw [exec_statusRow hi]
  refine ⟨fun hcode hd => ?_, fun hcode hd => ?_⟩
  · rw [completeStep_addressAcked hm hstep hop hd hcode, beginBody]
    refine ⟨fun o hpos ho => ?_, fun hpos ho => ?_, fun hzero => sendFrom_end ?_⟩
    · exact sendFrom_written (toNat_pos_iff.mpr hpos) ho
    · exact sendFrom_unwritten (toNat_pos_iff.mpr hpos) ho
    · exact (toNat_eq_zero_iff.mpr hzero).le
  · rw [completeStep_addressAcked hm hstep hop hd hcode]
    dsimp only
    rw [← readPolicy_zero, ← readLen_eq]
    rfl

theorem ofNat_toNat_succ (b : Byte) : BitVec.ofNat 8 (b.toNat + 1) = b + 1#8 := by
  bv_omega

/-- Settles O25: an acknowledged byte goes on with the body from the next offset. -/
theorem dataAnswerContinuesOrFails : Obligations.DataAnswerContinuesOrFails := by
  unfold Obligations.DataAnswerContinuesOrFails
  intro i code rx b s _ hi hm hstep
  rw [exec_statusRow hi, completeStep_txWait hm hstep, ← ofNat_toNat_succ]
  refine ⟨fun hcode => sendCompleted_rejected _ hcode, ?_⟩
  rintro rfl
  rw [sendCompleted_acked]
  exact ⟨fun o hlt ho => sendFrom_written hlt ho, fun hlt ho => sendFrom_unwritten hlt ho, fun hle => sendFrom_end hle⟩

theorem receiveCompleted_more (rx : Byte) {s : State} (h : s.mst.mCnt.toNat + 1 < readLen s.mst) :
    receiveCompleted rx s =
      receiveFrom (s.mst.mCnt.toNat + 1) { s with inbuf := s.inbuf.write s.mst.mCnt.toNat rx } :=
  if_pos h

theorem receiveCompleted_last (rx : Byte) {s : State} (h : readLen s.mst ≤ s.mst.mCnt.toNat + 1) :
    receiveCompleted rx s = readDone { s with inbuf := s.inbuf.write s.mst.mCnt.toNat rx } :=
  if_neg h.not_gt

/-- Settles O26: the byte is written at `M_CNT`, then the next one is asked for or the body ends. -/
theorem receivedByteIsStoredWhateverItsStatus : Obligations.ReceivedByteIsStoredWhateverItsStatus := by
  unfold Obligations.ReceivedByteIsStoredWhateverItsStatus
  intro i code rx p s _ hi hm hstep
  refine ⟨s.inbuf.write s.mst.mCnt.toNat rx, Memory.read_write_same _ _ _, fun a ha => Memory.read_write_other _ _ ha, ?_⟩
  rw [exec_statusRow hi, completeStep_rxWait hm hstep, ← readLen_eq]
  refine ⟨fun hlt => ?_, fun hle => congrArg _ (receiveCompleted_last rx hle)⟩
  rw [receiveCompleted_more (s := recordAnswer (.receive p) code rx s) rx hlt, ← readPolicy_eq hlt, ← ofNat_toNat_succ]
  rfl

end Sys2Proof.Machine
end

section
/-! SUPPORT. Whole runs of `M_WRITE` and `M_READ`: the opening of a session, then the bytes of the body by induction on the
answers. -/

namespace Sys2Proof.Machine

/-! ### A list of answers -/

theorem statusRow_decodeStatus (code rx : Byte) : statusRow (decodeStatus code rx) = some (code, rx) := by
  have named : ∀ p ∈ statusTable, statusRow (decodeStatus p.1 rx) = some (p.1, rx) := by
    intro p hp
    fin_cases hp <;> rfl
  by_cases h : classify code = .unknown
  · rw [decodeStatus_of_unknown rx h]
    rfl
  · exact named _ (classify_mem_statusTable h)

theorem exec_decodeStatus (code rx : Byte) (s : State) : exec (decodeStatus code rx) s = completeStep code rx s :=
  exec_statusRow (statusRow_decodeStatus code rx) s

theorem answered_cons (code rx : Byte) (as : List (Byte × Byte)) (s : State) :
    answered ((code, rx) :: as) (.next s) = answered as (completeStep code rx s) := by
  rw [answered, exec_decodeStatus]

theorem answered_append (as bs : List (Byte × Byte)) (o : Outcome) :
    answered (as ++ bs) o = answered bs (answered as o) := by
  induction as generalizing o with
  | nil => rfl
  | cons a as ih =>
    cases o with
    | next s => exact ih _
    | fault r => cases bs <;> rfl
    | refused r => cases bs <;> rfl

/-! ### The opening of a session (R150, R157, R160) -/

/-- The start has been confirmed and the address byte sent. -/
def addressSent (d : Direction) (start : Byte) (s : State) : State :=
  sendAddress (currentStatus (recordAnswer .start start 0#8 (beginStart d s)))

/-- The address has been acknowledged: the body of this direction begins. -/
def afterAddress (d : Direction) (start : Byte) (s : State) : State :=
  recordAnswer (.transmit (addrByte s.mst.mAddr d)) (addressAck d) 0#8 (addressSent d start s)

theorem completeStep_beginStart {start : Byte} (hstart : start = 0x08#8 ∨ start = 0x10#8) (d : Direction) (rx : Byte)
    (s : State) : completeStep start rx (beginStart d s) = .next (addressSent d start s) := by
  rw [completeStep_startWait rfl rfl]
  exact congrArg _ (if_pos (startConfirmed_iff.mpr hstart))

theorem completeStep_addressSent {s : State} (hop : s.mst.mOp ≠ opMStart) (d : Direction) (start rx : Byte) :
    completeStep (addressAck d) rx (addressSent d start s) = beginBody d (afterAddress d start s) :=
  completeStep_addressAcked (b := .transmit (addrByte s.mst.mAddr d)) (s := addressSent d start s) rfl rfl hop rfl rfl

theorem answered_opening {d : Direction} {start : Byte} {s : State} (hop : s.mst.mOp ≠ opMStart)
    (hstart : start = 0x08#8 ∨ start = 0x10#8) (r0 r1 : Byte) :
    answered [(start, r0), (addressAck d, r1)] (.next (beginStart d s)) = beginBody d (afterAddress d start s) := by
  rw [answered_cons, completeStep_beginStart hstart, answered_cons, completeStep_addressSent hop, answered]

/-- What the opening of a framing leaves in the trace, newest entry first. -/
def openingTrace (d : Direction) (start : Byte) (f : Framing) (a : BusAddr) : List TraceEntry :=
  if f.opens then [.transmitByte (addrByte a d), .currentStatus start, .issueStart] else []

/-- `M_WRITE` or `M_READ`, issued in the first state, is about to begin its body in the second. -/
structure BodyReady (d : Direction) (start : Byte) (op : BitVec 3) (f : Framing) (s u : State) : Prop where
  kept : KeptByMaster s u
  inbuf : u.inbuf = s.inbuf
  mOp : u.mst.mOp = op
  mFraming : u.mst.mFraming = f
  mLen : u.mst.mLen = s.opnd.aLen
  trace : u.trace = openingTrace d start f s.opnd.aAddr ++ s.trace

theorem latchBody_bodyReady (d : Direction) (start : Byte) (op : BitVec 3) {f : Framing} (s : State)
    (hf : f.opens = false) : BodyReady d start op f s (latchBody op f s) :=
  ⟨latchBody_kept op f s, rfl, rfl, rfl, rfl, by simp [openingTrace, hf]⟩

theorem afterAddress_bodyReady (d : Direction) (start : Byte) (op : BitVec 3) {f : Framing} (s : State)
    (hf : f.opens = true) : BodyReady d start op f s (afterAddress d start (latchBody op f s)) := by
  refine ⟨by constructor <;> simp [afterAddress, addressSent], ?_, ?_, ?_, ?_, ?_⟩
  case refine_5 => simp [afterAddress, addressSent, recordAnswer, openingTrace, hf]
  all_goals simp [afterAddress, addressSent]

/-- An accepted opening, where the framing has one, leads to the body of `M_WRITE`. -/
theorem answered_mWrite {s : State} {f : Framing} {start : Byte} (hready : MasterReady s)
    (haddr : f.opens = true → s.opnd.addrWritten = true) (hlen : s.opnd.lenWritten = true)
    (hstart : start = 0x08#8 ∨ start = 0x10#8) (r0 r1 : Byte) :
    ∃ u, answered (if f.opens then [(start, r0), (0x18#8, r1)] else []) (exec (.mWrite f) s) = sendFrom 0 u ∧
      BodyReady .write start opMWrite f s u := by
  cases hf : f.opens with
  | false => exact ⟨_, exec_mWrite_body hready hlen hf, latchBody_bodyReady _ _ _ s hf⟩
  | true =>
    refine ⟨_, ?_, afterAddress_bodyReady .write start opMWrite s hf⟩
    rw [exec_mWrite_opens hready hlen haddr hf]
    exact answered_opening (d := .write) (by simp [opMWrite, opMStart]) hstart r0 r1

/-- An accepted opening, where the framing has one, leads to the body of `M_READ`. -/
theorem answered_mRead {s : State} {f : Framing} {start : Byte} (hready : MasterReady s)
    (haddr : f.opens = true → s.opnd.addrWritten = true) (hlen : s.opnd.lenWritten = true)
    (hpos : s.opnd.aLen ≠ 0#8) (hstart : start = 0x08#8 ∨ start = 0x10#8) (r0 r1 : Byte) :
    ∃ u, answered (if f.opens then [(start, r0), (0x40#8, r1)] else []) (exec (.mRead f) s) = .next (receiveFrom 0 u) ∧
      BodyReady .read start opMRead f s u := by
  cases hf : f.opens with
  | false => exact ⟨_, exec_mRead_body hready hlen hpos hf, latchBody_bodyReady _ _ _ s hf⟩
  | true =>
    refine ⟨_, ?_, afterAddress_bodyReady .read start opMRead s hf⟩
    rw [exec_mRead_opens hready hlen haddr hpos hf]
    exact answered_opening (d := .read) (by simp [opMRead, opMStart]) hstart r0 r1

/-! ### The bytes of a write body (R157) -/

theorem toNat_ofNat_of_lt {i : Nat} (h : i < 256) : (BitVec.ofNat 8 i).toNat = i :=
  (BitVec.toNat_ofNat i 8).trans (Nat.mod_eq_of_lt h)

/-- Byte `i` has been acknowledged. -/
def byteAcked (i : Nat) (b : Byte) (s : State) : State :=
  recordAnswer (.transmit b) 0x28#8 0#8 (sendByte i b s)

theorem completeStep_sendByte_acked {i : Nat} (h : i < 256) (b rx : Byte) (s : State) :
    completeStep 0x28#8 rx (sendByte i b s) = sendFrom (i + 1) (byteAcked i b s) := by
  rw [completeStep_txWait rfl rfl, sendCompleted_acked]
  exact congrArg (fun k => sendFrom (k + 1) (byteAcked i b s)) (toNat_ofNat_of_lt h)

theorem completeStep_sendByte_rejected {code : Byte} (i : Nat) (b rx : Byte) (s : State) (h : code ≠ 0x28#8) :
    completeStep code rx (sendByte i b s) =
      .next (raiseFailure .dataRejected (recordAnswer (.transmit b) code rx (sendByte i b s))) := by
  rw [completeStep_txWait rfl rfl, sendCompleted_rejected _ h]

/-- The entries of `n` bytes sent from offset `i`, newest first. -/
def sentTrace (byte : Nat → Byte) (i n : Nat) : List TraceEntry :=
  (List.range' i n).reverse.map fun k => .transmitByte (byte k)

/-- The `n` bytes from offset `i` have been sent and acknowledged. -/
structure SentBytes (byte : Nat → Byte) (i n : Nat) (s t : State) : Prop where
  kept : KeptByMaster s t
  inbuf : t.inbuf = s.inbuf
  mOp : t.mst.mOp = s.mst.mOp
  mFraming : t.mst.mFraming = s.mst.mFraming
  mLen : t.mst.mLen = s.mst.mLen
  trace : t.trace = sentTrace byte i n ++ s.trace

theorem SentBytes.nil (byte : Nat → Byte) (i : Nat) (s : State) : SentBytes byte i 0 s s :=
  ⟨by constructor <;> rfl, rfl, rfl, rfl, rfl, rfl⟩

theorem SentBytes.cons {byte : Nat → Byte} {i n : Nat} {s t : State}
    (h : SentBytes byte (i + 1) n (byteAcked i (byte i) s) t) : SentBytes byte i (n + 1) s t := by
  obtain ⟨hkept, hin, hop, hframing, hlen, htrace⟩ := h
  have hbyte : KeptByMaster s (byteAcked i (byte i) s) := by constructor <;> rfl
  refine ⟨hbyte.trans hkept, hin, hop, hframing, hlen, htrace.trans ?_⟩
  simp [sentTrace, List.range'_succ, byteAcked, sendByte]

/-- Acknowledged bytes are sent in order, one after another. -/
theorem answered_acked {byte : Nat → Byte} {i : Nat} {s : State} (rs : List Byte)
    (hfit : i + rs.length ≤ s.mst.mLen.toNat)
    (hbytes : ∀ k, k < s.mst.mLen.toNat → s.outbuf.read k = some (byte k)) :
    ∃ t, answered (rs.map fun r => (0x28#8, r)) (sendFrom i s) = sendFrom (i + rs.length) t ∧
      SentBytes byte i rs.length s t := by
  induction rs generalizing i s with
  | nil => exact ⟨s, rfl, .nil byte i s⟩
  | cons r rs ih =>
    rw [List.length_cons] at hfit
    have hi : i < s.mst.mLen.toNat := by omega
    have hcell : i < 256 := by omega
    obtain ⟨t, ht, hsent⟩ := ih (i := i + 1) (s := byteAcked i (byte i) s) (by simp [byteAcked, sendByte]; omega) hbytes
    refine ⟨t, ?_, hsent.cons⟩
    rw [sendFrom_written hi (hbytes i hi), List.map_cons, answered_cons, completeStep_sendByte_acked hcell, ht,
      List.length_cons, Nat.add_right_comm, Nat.add_assoc]

theorem sentTrace_zero (byte : Nat → Byte) (n : Nat) :
    sentTrace byte 0 n = (List.range n).reverse.map fun k => .transmitByte (byte k) := by
  rw [sentTrace, List.range_eq_range']

/-- Settles O54: the opening, then every byte, then the end of the body. -/
theorem acknowledgedWriteSendsEveryByteInOrder : Obligations.AcknowledgedWriteSendsEveryByteInOrder := by
  unfold Obligations.AcknowledgedWriteSendsEveryByteInOrder
  intro s f byte start r0 r1 rs _ hready haddr hlen hstart hrs hbytes
  obtain ⟨u, hopening, hu⟩ := answered_mWrite hready haddr hlen hstart r0 r1
  rw [← hu.mLen] at hrs hbytes
  obtain ⟨t, hbody, ht⟩ := answered_acked (i := 0) rs (by omega) (hu.kept.outbuf ▸ hbytes)
  have hend : sendFrom (0 + rs.length) t = .next (returnResult .ok (closeIf f.closes t)) := by
    rw [sendFrom_end (by rw [ht.mLen]; omega), writeDone_command (by simp [ht.mOp, hu.mOp, opMWrite, opMTransfer]),
      ht.mFraming, hu.mFraming]
  have hkept := hu.kept.trans ht.kept
  refine ⟨_, by rw [answered_append, hopening, hbody, hend], rfl, rfl, rfl, rfl, ?_, ?_, ?_, ?_, ?_⟩
  · simpa using hkept.outbuf
  · simpa using ht.inbuf.trans hu.inbuf
  · simpa using hkept.array
  · simpa using hkept.slv
  · rw [returnResult_closeIf, ← hu.mLen, ← hrs, ← sentTrace_zero, List.append_assoc, List.append_assoc]
    cases hc : f.closes <;> simp [ht.trace, hu.trace, openingTrace]

/-- Bytes sent leave the bus as it was (R46). -/
theorem heldOpen_map_transmitByte (byte : Nat → Byte) (l : List Nat) (tr : List TraceEntry) :
    heldOpen (l.map (fun k => TraceEntry.transmitByte (byte k)) ++ tr) = heldOpen tr := by
  induction l with
  | nil => rfl
  | cons k l ih => exact ih

theorem heldOpen_openingTrace (d : Direction) (start : Byte) (f : Framing) (a : BusAddr) (tr : List TraceEntry) :
    heldOpen (openingTrace d start f a ++ tr) = (f.opens || heldOpen tr) := by
  unfold openingTrace
  cases f.opens <;> rfl

/-- Settles O55: the bytes before it go through, and the rejected one fails with no stop. -/
theorem rejectedDataByteLeavesTheBusHeld : Obligations.RejectedDataByteLeavesTheBusHeld := by
  unfold Obligations.RejectedDataByteLeavesTheBusHeld
  intro s f byte start bad r0 r1 r2 rs _ hready haddr hlen hstart hbad hrs hbytes
  obtain ⟨u, hopening, hu⟩ := answered_mWrite hready haddr hlen hstart r0 r1
  rw [← hu.mLen] at hrs hbytes
  obtain ⟨t, hbody, ht⟩ := answered_acked (i := 0) rs (by omega) (hu.kept.outbuf ▸ hbytes)
  have hlast : sendFrom (0 + rs.length) t = .next (sendByte rs.length (byte rs.length) t) := by
    rw [Nat.zero_add]
    exact sendFrom_written (ht.mLen ▸ hrs) (by rw [ht.kept.outbuf, hu.kept.outbuf]; exact hbytes _ hrs)
  have htrace : (raiseFailure .dataRejected
        (recordAnswer (.transmit (byte rs.length)) bad r2 (sendByte rs.length (byte rs.length) t))).trace =
      [.raised .dataRejected] ++ (List.range (rs.length + 1)).reverse.map (fun k => .transmitByte (byte k)) ++
        openingTrace .write start f s.opnd.aAddr ++ s.trace := by
    simp [sendByte, ht.trace, hu.trace, sentTrace_zero, List.range_succ]
  refine ⟨_, ?_, rfl, rfl, rfl, rfl, ?_, htrace⟩
  · rw [answered_append, hopening, answered_append, hbody, hlast, answered_cons, completeStep_sendByte_rejected _ _ _ _ hbad]
    rfl
  · rw [htrace, List.append_assoc, List.append_assoc]
    exact (heldOpen_map_transmitByte byte _ _).trans (heldOpen_openingTrace .write start f s.opnd.aAddr s.trace)

/-! ### The bytes of a read body (R160, R161) -/

theorem readLen_lt (m : Master) : readLen m < 256 := by
  rw [readLen_eq]
  exact BitVec.isLt _

/-- Byte `i` has arrived with its status and is stored. -/
def byteStored (i : Nat) (code rx : Byte) (s : State) : State :=
  { recordAnswer (.receive (readPolicy i (readLen s.mst))) code rx (receiveFrom i s) with
    inbuf := s.inbuf.write i rx }

theorem receiveFrom_mCnt {i : Nat} {s : State} (h : i < readLen s.mst) : (receiveFrom i s).mst.mCnt.toNat = i :=
  toNat_ofNat_of_lt (h.trans (readLen_lt s.mst))

theorem completeStep_receiveFrom_more {i : Nat} {s : State} (code rx : Byte) (h : i + 1 < readLen s.mst) :
    completeStep code rx (receiveFrom i s) = .next (receiveFrom (i + 1) (byteStored i code rx s)) := by
  have hcnt := receiveFrom_mCnt (s := s) (i := i) (by omega)
  rw [completeStep_rxWait rfl rfl, receiveCompleted_more rx (by rw [recordAnswer_mst, hcnt]; exact h),
    recordAnswer_mst, hcnt]
  rfl

theorem completeStep_receiveFrom_last {i : Nat} {s : State} (code rx : Byte) (h : i + 1 = readLen s.mst) :
    completeStep code rx (receiveFrom i s) = .next (readDone (byteStored i code rx s)) := by
  have hcnt := receiveFrom_mCnt (s := s) (i := i) (by omega)
  rw [completeStep_rxWait rfl rfl, receiveCompleted_last rx (by rw [recordAnswer_mst, hcnt]; exact h.ge),
    recordAnswer_mst, hcnt]
  rfl

/-- The bytes that came with these answers stand in `INBUF` from offset `i`, and no other cell has changed; all receives
but the last were acknowledged. -/
structure ReceivedBytes (rs : List (Byte × Byte)) (i : Nat) (s t : State) : Prop where
  mOp : t.mst.mOp = s.mst.mOp
  mFraming : t.mst.mFraming = s.mst.mFraming
  cells : ∀ (k : Nat) (h : k < rs.length), t.inbuf.read (i + k) = some rs[k].2
  others : ∀ a, a < i ∨ i + rs.length ≤ a → t.inbuf.read a = s.inbuf.read a
  trace : t.trace = .receiveByte .nack :: List.replicate (rs.length - 1) (.receiveByte .ack) ++ s.trace

theorem ReceivedBytes.last (code rx : Byte) {i : Nat} {s : State} (h : i + 1 = readLen s.mst) :
    ReceivedBytes [(code, rx)] i s (byteStored i code rx s) := by
  refine ⟨rfl, rfl, fun k hk => ?_, fun a ha => Memory.read_write_other _ _ ?_, ?_⟩
  · obtain rfl : k = 0 := by simpa using hk
    exact Memory.read_write_same _ _ _
  · rw [List.length_singleton] at ha
    omega
  · simp [byteStored, readPolicy, h]

theorem ReceivedBytes.cons {code rx : Byte} {as : List (Byte × Byte)} {i : Nat} {s t : State} (hne : as ≠ [])
    (hmore : i + 1 < readLen s.mst) (h : ReceivedBytes as (i + 1) (byteStored i code rx s) t) :
    ReceivedBytes ((code, rx) :: as) i s t := by
  refine ⟨h.mOp, h.mFraming, fun k hk => ?_, fun a ha => ?_, ?_⟩
  · cases k with
    | zero => exact (h.others i (by omega)).trans (Memory.read_write_same _ _ _)
    | succ k => simpa [Nat.add_assoc, Nat.add_comm 1] using h.cells k (by simpa using hk)
  · rw [List.length_cons] at ha
    exact (h.others a (by omega)).trans (Memory.read_write_other _ _ (by omega))
  · have hack : (byteStored i code rx s).trace = [.receiveByte .ack] ++ s.trace := by
      simp [byteStored, readPolicy, hmore.ne]
    have hlen : as.length - 1 + 1 = as.length := Nat.sub_add_cancel (List.length_pos_iff.mpr hne)
    rw [h.trace, hack, List.length_cons, Nat.add_sub_cancel, ← hlen, Nat.add_sub_cancel, List.replicate_succ']
    simp

/-- Every byte of the body is received in order, whatever its status (R160). -/
theorem answered_received {rs : List (Byte × Byte)} {i : Nat} {s : State} (hne : rs ≠ [])
    (hlen : i + rs.length = readLen s.mst) :
    ∃ t, answered rs (.next (receiveFrom i s)) = .next (readDone t) ∧ ReceivedBytes rs i s t := by
  induction rs generalizing i s with
  | nil => exact absurd rfl hne
  | cons a as ih =>
    obtain ⟨code, rx⟩ := a
    rw [List.length_cons] at hlen
    rw [answered_cons]
    by_cases has : as = []
    · subst has
      exact ⟨_, congrArg _ (completeStep_receiveFrom_last code rx hlen), .last code rx hlen⟩
    · have hpos := List.length_pos_iff.mpr has
      have hmore : i + 1 < readLen s.mst := by omega
      obtain ⟨t, ht, hreceived⟩ := ih (i := i + 1) (s := byteStored i code rx s) has
        ((by omega : i + 1 + as.length = readLen s.mst))
      rw [completeStep_receiveFrom_more code rx hmore]
      exact ⟨t, ht, hreceived.cons has hmore⟩

/-- Settles O56: the opening, then every byte, then the end of the body. -/
theorem readAcknowledgesAllButTheLastByte : Obligations.ReadAcknowledgesAllButTheLastByte := by
  unfold Obligations.ReadAcknowledgesAllButTheLastByte
  intro s f start r0 r1 rs _ hready haddr hlen hstart hrs hpos
  obtain ⟨u, hopening, hu⟩ :=
    answered_mRead hready haddr hlen (toNat_pos_iff.mp hpos) hstart r0 r1
  have hop : u.mst.mOp ≠ opMTransfer := by simp [hu.mOp, opMRead, opMTransfer]
  obtain ⟨t, hbody, ht⟩ := answered_received (i := 0) (s := u) (rs := rs) (List.length_pos_iff.mp (hrs ▸ hpos))
    (by rw [readLen, if_neg hop, hu.mLen]; omega)
  have hend : readDone t = returnResult .ok (closeIf f.closes t) := by
    rw [readDone_command (ht.mOp ▸ hop), ht.mFraming, hu.mFraming]
  refine ⟨_, by rw [answered_append, hopening, hbody, hend], rfl, rfl, rfl, rfl, fun k hk => ?_, fun a ha => ?_, ?_⟩
  · simpa using ht.cells k hk
  · simpa [hu.inbuf] using ht.others a (by omega)
  · rw [returnResult_closeIf]
    cases hc : f.closes <;> simp [ht.trace, hu.trace, openingTrace]

end Sys2Proof.Machine
end

section
/-! SUPPORT. `M_TRANSFER` beside `M_WRITE`, `M_READ` and `M_STOP` under the same answers (R166): each phase of the transfer is
at the same point of the bus as the simpler command it stands for, until the phase ends or fails. -/

namespace Sys2Proof.Machine

/-! ### Answers until a command returns -/

theorem drive_idle (as : List (Byte × Byte)) {s : State} (h : s.mst.mState = .idle) : drive as s = (s, as) := by
  cases as with
  | nil => rfl
  | cons a as => exact if_pos h

theorem drive_cons_next {a : Byte × Byte} {as : List (Byte × Byte)} {s t : State} (hrun : s.mst.mState ≠ .idle)
    (h : completeStep a.1 a.2 s = .next t) : drive (a :: as) s = drive as t := by
  simp only [drive, if_neg hrun, exec_decodeStatus, h]

theorem drive_cons_stuck {a : Byte × Byte} {as : List (Byte × Byte)} {s : State} (hrun : s.mst.mState ≠ .idle)
    (h : ∀ t, completeStep a.1 a.2 s ≠ .next t) : drive (a :: as) s = (s, a :: as) := by
  rw [drive, if_neg hrun, exec_decodeStatus]
  split
  · next t ht => exact absurd ht (h t)
  · rfl
  · rfl

/-! ### A phase of the transfer and the simpler command at the same point of the bus -/

/-- The opcode of the command a phase of `M_TRANSFER` stands for (R166). -/
def phaseOp (d : Direction) : BitVec 3 :=
  match d with
  | .write => opMWrite
  | .read => opMRead

/-- The number of bytes of a phase of `M_TRANSFER` (R163). -/
def phaseLen (d : Direction) (m : Master) : Byte :=
  match d with
  | .write => m.mLen
  | .read => m.mIlen

/-- The wait for a byte of the body. -/
def bodyWait (d : Direction) : MState :=
  match d with
  | .write => .txWait
  | .read => .rxWait

/-- What follows the body of a phase (R163, R167). -/
def bodyEnd (d : Direction) (v : State) : State :=
  match d with
  | .write => writeDone v
  | .read => readDone v

/-- The command `k` moved to the point of the bus that `v` has reached. -/
def onBus (v k : State) : State :=
  { k with
    mst := { k.mst with mState := v.mst.mState, mDir := v.mst.mDir, mAddr := v.mst.mAddr, mCnt := v.mst.mCnt }
    outbuf := v.outbuf
    inbuf := v.inbuf
    phy := v.phy
    trace := v.trace }

/-- The transfer `v` is in the phase of direction `d`, which stands for the command `k`. -/
structure InPhase (d : Direction) (k v : State) : Prop where
  transfer : v.mst.mOp = opMTransfer
  ran : v.mst.mRan = true
  mDir : v.mst.mDir = d
  mAddr : v.mst.mAddr = k.opnd.aAddr
  mIlen : v.mst.mIlen = k.opnd.aIlen
  command : k.mst.mOp = phaseOp d
  framing : k.mst.mFraming = .start
  len : k.mst.mLen = phaseLen d v.mst

/-- The waits of a phase. -/
def Awaits (d : Direction) (m : MState) : Prop := m = .startWait ∨ m = .addrWait ∨ m = bodyWait d

/-- What the sequencer moves within a phase is outside `InPhase`. -/
theorem InPhase.moved {d : Direction} {k v : State} (h : InPhase d k v) (m : MState) (cnt : Byte) (ib : Memory) (p : Phy)
    (tr : List TraceEntry) :
    InPhase d k { v with mst := { v.mst with mState := m, mCnt := cnt }, inbuf := ib, phy := p, trace := tr } :=
  ⟨h.transfer, h.ran, h.mDir, h.mAddr, h.mIlen, h.command, h.framing, h.len⟩

theorem InPhase.recordAnswer {d : Direction} {k v : State} (h : InPhase d k v) (b : BusStep) (code rx : Byte) :
    InPhase d k (recordAnswer b code rx v) :=
  h.moved v.mst.mState v.mst.mCnt v.inbuf _ v.trace

theorem InPhase.phaseOp_ne {d : Direction} {k v : State} (h : InPhase d k v) :
    k.mst.mOp ≠ opMStart ∧ k.mst.mOp ≠ opMTransfer := by
  rw [h.command]
  cases d <;> decide

theorem InPhase.readLen_eq {k v : State} (h : InPhase .read k v) : readLen (onBus v k).mst = readLen v.mst := by
  have hk : readLen (onBus v k).mst = k.mst.mLen.toNat := if_neg h.phaseOp_ne.2
  rw [hk, h.len, readLen, if_pos h.transfer, phaseLen]

/-- The command beside the transfer has no stop to issue at the end of its body, and returns (R157, R160). -/
theorem InPhase.bodyEnd_onBus {d : Direction} {k v : State} (h : InPhase d k v) :
    bodyEnd d (onBus v k) = returnResult .ok (onBus v k) := by
  have hclose : closeIf (onBus v k).mst.mFraming.closes (onBus v k) = onBus v k := by
    rw [show (onBus v k).mst.mFraming = .start from h.framing]
    rfl
  cases d with
  | write => rw [bodyEnd, writeDone_command (s := onBus v k) h.phaseOp_ne.2, hclose]
  | read => rw [bodyEnd, readDone_command (s := onBus v k) h.phaseOp_ne.2, hclose]

/-- How an answer moves the transfer and the command beside it: both wait on, both fail, the body of both ends, or both
stop. -/
inductive Follows (d : Direction) (k : State) : Outcome → Outcome → Prop
  | waits {v : State} (h : InPhase d k v) (hw : Awaits d v.mst.mState) : Follows d k (.next v) (.next (onBus v k))
  | fails (c : Cause) (v : State) : Follows d k (.next (raiseFailure c v)) (.next (raiseFailure c (onBus v k)))
  | ends {v : State} (h : InPhase d k v) (hstep : v.phy.step = none) :
      Follows d k (.next (bodyEnd d v)) (.next (returnResult .ok (onBus v k)))
  | stops {o o' : Outcome} (h : ∀ t, o ≠ .next t) : Follows d k o o'

theorem sendFrom_follows {k v : State} (h : InPhase .write k v) (hstep : v.phy.step = none) (i : Nat) :
    Follows .write k (sendFrom i v) (sendFrom i (onBus v k)) := by
  have hlen : (onBus v k).mst.mLen = v.mst.mLen := h.len
  rcases sendFrom_cases i v with ⟨b, hi, hb, -⟩ | ⟨hi, hb, -⟩ | ⟨hi, -⟩
  · rw [sendFrom_written hi hb, sendFrom_written (s := onBus v k) (hlen ▸ hi) hb]
    exact .waits (v := sendByte i b v) (h.moved _ _ _ _ _) (.inr (.inr rfl))
  · rw [sendFrom_unwritten hi hb]
    exact .stops (by simp)
  · have hend : writeDone (onBus v k) = returnResult .ok (onBus v k) := h.bodyEnd_onBus
    rw [sendFrom_end hi, sendFrom_end (s := onBus v k) (hlen ▸ hi), hend]
    exact .ends h hstep

theorem receiveFrom_follows {k v : State} (h : InPhase .read k v) (i : Nat) :
    Follows .read k (.next (receiveFrom i v)) (.next (receiveFrom i (onBus v k))) := by
  have hmoved : receiveFrom i (onBus v k) = onBus (receiveFrom i v) k := by
    rw [receiveFrom, h.readLen_eq]
    rfl
  rw [hmoved]
  exact .waits (v := receiveFrom i v) (h.moved _ _ _ _ _) (.inr (.inr rfl))

theorem beginBody_follows {d : Direction} {k v : State} (h : InPhase d k v) (hstep : v.phy.step = none) :
    Follows d k (beginBody d v) (beginBody d (onBus v k)) := by
  cases d with
  | write => exact sendFrom_follows h hstep 0
  | read => exact receiveFrom_follows h 0

theorem startCompleted_follows {d : Direction} {k v : State} (h : InPhase d k v) (code : Byte) :
    Follows d k (.next (startCompleted code v)) (.next (startCompleted code (onBus v k))) := by
  unfold startCompleted
  split_ifs
  · exact .waits (v := sendAddress (currentStatus v)) (h.moved _ _ _ _ _) (.inr (.inl rfl))
  · exact .fails .startFailed (currentStatus v)

theorem sendCompleted_follows {k v : State} (h : InPhase .write k v) (hstep : v.phy.step = none) (code : Byte) :
    Follows .write k (sendCompleted code v) (sendCompleted code (onBus v k)) := by
  by_cases hcode : code = 0x28#8
  · subst hcode
    exact sendFrom_follows h hstep _
  · rw [sendCompleted_rejected _ hcode, sendCompleted_rejected _ hcode]
    exact .fails .dataRejected v

theorem receiveCompleted_follows {k v : State} (h : InPhase .read k v) (hstep : v.phy.step = none) (rx : Byte) :
    Follows .read k (.next (receiveCompleted rx v)) (.next (receiveCompleted rx (onBus v k))) := by
  have hstored : InPhase .read k { v with inbuf := v.inbuf.write v.mst.mCnt.toNat rx } := h.moved _ _ _ _ _
  have hlen := h.readLen_eq
  by_cases hmore : v.mst.mCnt.toNat + 1 < readLen v.mst
  · rw [receiveCompleted_more rx hmore, receiveCompleted_more (s := onBus v k) rx (hlen ▸ hmore)]
    exact receiveFrom_follows hstored _
  · have hend : receiveCompleted rx (onBus v k) = returnResult .ok (onBus { v with inbuf := _ } k) :=
      (receiveCompleted_last (s := onBus v k) rx (hlen ▸ not_lt.mp hmore)).trans hstored.bodyEnd_onBus
    rw [receiveCompleted_last rx (not_lt.mp hmore), hend]
    exact .ends hstored hstep

/-- Every answer moves the transfer and the command in step. -/
theorem completeStep_follows {d : Direction} {k v : State} (h : InPhase d k v) (hw : Awaits d v.mst.mState)
    (code rx : Byte) : Follows d k (completeStep code rx v) (completeStep code rx (onBus v k)) := by
  cases hstep : v.phy.step with
  | none => exact .stops (by simp [completeStep, hstep])
  | some b =>
    have hans := h.recordAnswer b code rx
    rcases hw with hm | hm | hm
    · rw [completeStep_startWait hm hstep, completeStep_startWait (s := onBus v k) hm hstep]
      exact startCompleted_follows hans code
    · by_cases hcode : code = addressAck d
      · rw [completeStep_addressAcked hm hstep (by rw [h.transfer]; decide) h.mDir hcode,
          completeStep_addressAcked (s := onBus v k) hm hstep h.phaseOp_ne.1 h.mDir hcode]
        exact beginBody_follows hans rfl
      · rw [← h.mDir] at hcode
        rw [completeStep_addressRejected hm hstep hcode, completeStep_addressRejected (s := onBus v k) hm hstep hcode]
        exact .fails .addressRejected (issueStop (recordAnswer b code rx v))
    · cases d with
      | write =>
        rw [completeStep_txWait hm hstep, completeStep_txWait (s := onBus v k) hm hstep]
        exact sendCompleted_follows hans rfl code
      | read =>
        rw [completeStep_rxWait hm hstep, completeStep_rxWait (s := onBus v k) hm hstep]
        exact receiveCompleted_follows hans rfl rx

theorem Awaits.ne_idle {d : Direction} {m : MState} (h : Awaits d m) : m ≠ .idle := by
  rintro rfl
  cases d <;> simp [Awaits, bodyWait] at h

/-- A transfer that returns has failed in this phase, as the command did, or has ended the body, as the command did, and
gone on with the answers left over. -/
theorem drive_follows {d : Direction} {k v t : State} {as rest : List (Byte × Byte)} (h : InPhase d k v)
    (hw : Awaits d v.mst.mState) (hdrive : drive as v = (t, rest)) (hidle : t.mst.mState = .idle) :
    (∃ c x, t = raiseFailure c x ∧ drive as (onBus v k) = (raiseFailure c (onBus x k), rest)) ∨
      ∃ x as', InPhase d k x ∧ x.phy.step = none ∧ drive as (onBus v k) = (returnResult .ok (onBus x k), as') ∧
        drive as' (bodyEnd d x) = (t, rest) := by
  induction as generalizing v with
  | nil =>
    cases hdrive
    exact absurd hidle hw.ne_idle
  | cons a as ih =>
    have hstep := completeStep_follows h hw a.1 a.2
    have hrun : (onBus v k).mst.mState ≠ .idle := hw.ne_idle
    generalize hv : completeStep a.1 a.2 v = o at hstep
    generalize hk : completeStep a.1 a.2 (onBus v k) = o' at hstep
    cases hstep with
    | waits h' hw' =>
      rw [drive_cons_next hw.ne_idle hv] at hdrive
      rw [drive_cons_next hrun hk]
      exact ih h' hw' hdrive
    | fails c x =>
      rw [drive_cons_next hw.ne_idle hv, drive_idle as rfl] at hdrive
      obtain ⟨rfl, rfl⟩ := Prod.mk.inj hdrive
      exact .inl ⟨c, x, rfl, by rw [drive_cons_next hrun hk, drive_idle as rfl]⟩
    | ends h' hnone =>
      rw [drive_cons_next hw.ne_idle hv] at hdrive
      exact .inr ⟨_, as, h', hnone, by rw [drive_cons_next hrun hk, drive_idle as rfl], hdrive⟩
    | stops hstuck =>
      rw [drive_cons_stuck hw.ne_idle (hv ▸ hstuck)] at hdrive
      cases hdrive
      exact absurd hidle hw.ne_idle

/-! ### The simpler commands, in two parts -/

/-- A command issued, and then answered until it returns. -/
def issueThenDrive (i : Instr) (s : State) (as : List (Byte × Byte)) : State × List (Byte × Byte) :=
  match exec i s with
  | .next t => drive as t
  | .fault _ => (s, as)
  | .refused _ => (s, as)

/-- The foreground has set `A_LEN` to the length of the read. -/
def withReadLen (len : Byte) (p : State) : State := { p with opnd := { p.opnd with aLen := len } }

/-- `M_READ` and `M_STOP` of R166, after the `M_WRITE` that left `p`, if there was one. -/
def readThenStop (wrote : Bool) (len : Byte) (p : State) (as : List (Byte × Byte)) :
    State × CmdResult × List (Byte × Byte) :=
  if len = 0#8 then
    if wrote then ((issueThenDrive .mStop p as).1, .ok, as) else (p, .ok, as)
  else
    let q := issueThenDrive (.mRead .start) (withReadLen len p) as
    if q.1.mst.result = .fail then (q.1, .fail, q.2) else ((issueThenDrive .mStop q.1 q.2).1, .ok, q.2)

theorem issueThenDrive_next {i : Instr} {s t : State} (as : List (Byte × Byte)) (h : exec i s = .next t) :
    issueThenDrive i s as = drive as t := by
  simp only [issueThenDrive, h]

theorem issueThenDrive_mStop {p : State} (as : List (Byte × Byte)) (hready : MasterReady p) :
    issueThenDrive .mStop p as = (issueStop p, as) := by
  have hstop : exec .mStop p = .next (issueStop p) := guarded_masterCheck hready rfl _
  have hidle : (issueStop p).mst.mState = .idle := hready.1.1
  rw [issueThenDrive_next as hstop, drive_idle as hidle]

theorem simplerCommands_of_no_write {s : State} (as : List (Byte × Byte)) (hzero : s.opnd.aLen = 0#8) :
    simplerCommands s as = readThenStop false s.opnd.aIlen s as := by
  by_cases hread : s.opnd.aIlen = 0#8
  · simp [simplerCommands, readThenStop, hzero, hread]
  · simp only [simplerCommands, readThenStop, hzero, hread, toNat_pos_iff, ne_eq, not_true, not_false_eq_true, if_true,
      if_false, true_and, false_and, or_true]
    rfl

theorem simplerCommands_of_write {s : State} (as : List (Byte × Byte)) (hpos : s.opnd.aLen ≠ 0#8) :
    simplerCommands s as =
      let q := issueThenDrive (.mWrite .start) s as
      if q.1.mst.result = .fail then (q.1, .fail, q.2) else readThenStop true s.opnd.aIlen q.1 q.2 := by
  by_cases hread : s.opnd.aIlen = 0#8 <;>
    simp only [simplerCommands, readThenStop, hpos, hread, toNat_pos_iff, ne_eq, not_true, not_false_eq_true, if_true,
      if_false, true_and, false_and, true_or, or_true] <;>
    rfl

/-! ### The two runs end alike (R166) -/

/-- The transfer has ended in `t`, and the simpler commands as `q`: the same trace, the same bytes, the same result and the
same answers left over. -/
def EndsAlike (t : State) (rest : List (Byte × Byte)) (q : State × CmdResult × List (Byte × Byte)) : Prop :=
  q.1.trace = t.trace ∧ q.1.inbuf = t.inbuf ∧ q.2.1 = t.mst.result ∧ q.2.2 = rest

/-- The transfer `x` is before its read phase, and the foreground in `p` before its `M_READ`. -/
structure BeforeRead (wrote : Bool) (x p : State) : Prop where
  ready : MasterReady p
  addrWritten : p.opnd.addrWritten = true
  lenWritten : p.opnd.lenWritten = true
  outbuf : p.outbuf = x.outbuf
  inbuf : p.inbuf = x.inbuf
  phy : p.phy = x.phy
  trace : p.trace = x.trace
  transfer : x.mst.mOp = opMTransfer
  ran : x.mst.mRan = wrote
  mAddr : x.mst.mAddr = p.opnd.aAddr
  mIlen : x.mst.mIlen = p.opnd.aIlen

/-- What `M_READ` has latched when it stands for the read phase. -/
def latchRead (p : State) : State := latchBody opMRead .start (withReadLen p.opnd.aIlen p)

theorem BeforeRead.inPhase {wrote : Bool} {x p : State} (h : BeforeRead wrote x p) :
    InPhase .read (latchRead p) (enterReadPhase x) :=
  ⟨h.transfer, rfl, rfl, h.mAddr, h.mIlen, rfl, rfl, h.mIlen.symm⟩

theorem BeforeRead.exec_mRead {wrote : Bool} {x p : State} (h : BeforeRead wrote x p) (hread : p.opnd.aIlen ≠ 0#8) :
    exec (.mRead .start) (withReadLen p.opnd.aIlen p) = .next (onBus (enterReadPhase x) (latchRead p)) := by
  rw [exec_mRead_opens (s := withReadLen p.opnd.aIlen p) h.ready h.lenWritten (fun _ => h.addrWritten) hread rfl]
  simp only [onBus, enterReadPhase, latchRead, beginStart, issueStart, request, State.log, latchBody, withReadLen,
    h.outbuf, h.inbuf, h.phy, h.trace, h.mAddr]
  rfl

theorem finishTransfer_drive (as : List (Byte × Byte)) (s : State) :
    drive as (finishTransfer s) = (finishTransfer s, as) :=
  drive_idle as rfl

theorem BeforeRead.endsAlike {wrote : Bool} {x p t : State} {as rest : List (Byte × Byte)} (h : BeforeRead wrote x p)
    (hdrive : drive as (readPhase x) = (t, rest)) (hidle : t.mst.mState = .idle) :
    EndsAlike t rest (readThenStop wrote p.opnd.aIlen p as) := by
  by_cases hread : p.opnd.aIlen = 0#8
  · rw [readPhase_skipped (h.mIlen.trans hread), finishTransfer_drive] at hdrive
    obtain ⟨rfl, rfl⟩ := Prod.mk.inj hdrive
    rw [readThenStop, if_pos hread, finishTransfer, h.ran]
    cases wrote with
    | false => exact ⟨h.trace, h.inbuf, rfl, rfl⟩
    | true =>
      rw [issueThenDrive_mStop as h.ready]
      exact ⟨congrArg (TraceEntry.issueStop :: ·) h.trace, h.inbuf, rfl, rfl⟩
  · rw [readPhase_enters (h.mIlen ▸ hread)] at hdrive
    rw [readThenStop, if_neg hread, issueThenDrive_next as (h.exec_mRead hread)]
    rcases drive_follows h.inPhase (.inl rfl) hdrive hidle with ⟨c, y, rfl, hk⟩ | ⟨y, as', hy, hnone, hk, hend⟩
    · rw [hk]
      exact ⟨rfl, rfl, rfl, rfl⟩
    · have hready : MasterReady (returnResult .ok (onBus y (latchRead p))) := ⟨⟨rfl, hnone⟩, h.ready.2⟩
      rw [bodyEnd, readDone_transfer hy.transfer, finishTransfer_drive] at hend
      obtain ⟨rfl, rfl⟩ := Prod.mk.inj hend
      simp only [hk]
      rw [if_neg (by simp), issueThenDrive_mStop _ hready, finishTransfer, hy.ran]
      exact ⟨rfl, rfl, rfl, rfl⟩

/-- Settles O57: the write phase beside `M_WRITE`, then the read phase beside `M_READ`. -/
theorem transferEqualsTheSimplerCommands : Obligations.TransferEqualsTheSimplerCommands := by
  unfold Obligations.TransferEqualsTheSimplerCommands
  rintro s t u as rest rest' r _ hready haddr hlen hilen - ⟨v, hv, hdrive⟩ hidle hsimpler
  have hopnd := transferOperands_eq_true haddr hlen hilen
  suffices halike : EndsAlike t rest (simplerCommands s as) by
    rw [hsimpler] at halike
    exact halike
  by_cases hzero : s.opnd.aLen = 0#8
  · rw [exec_mTransfer_reads hready hopnd hzero] at hv
    cases hv
    rw [simplerCommands_of_no_write as hzero]
    have hbefore : BeforeRead false (latchTransfer s) s :=
      ⟨hready, haddr, hlen, rfl, rfl, rfl, rfl, rfl, rfl, rfl, rfl⟩
    exact hbefore.endsAlike hdrive hidle
  · rw [exec_mTransfer_writes hready hopnd hzero] at hv
    cases hv
    have hphase : InPhase .write (latchBody opMWrite .start s) (enterWritePhase s) :=
      ⟨rfl, rfl, rfl, rfl, rfl, rfl, rfl, rfl⟩
    have hwrite : exec (.mWrite .start) s = .next (onBus (enterWritePhase s) (latchBody opMWrite .start s)) :=
      exec_mWrite_opens hready hlen (fun _ => haddr) rfl
    rw [simplerCommands_of_write as hzero, issueThenDrive_next as hwrite]
    rcases drive_follows hphase (.inl rfl) hdrive hidle with ⟨c, y, rfl, hk⟩ | ⟨y, as', hy, hnone, hk, hend⟩
    · rw [hk]
      exact ⟨rfl, rfl, rfl, rfl⟩
    · have hbefore : BeforeRead true y (returnResult .ok (onBus y (latchBody opMWrite .start s))) :=
        ⟨⟨⟨rfl, hnone⟩, hready.2⟩, haddr, hlen, rfl, rfl, rfl, rfl, hy.transfer, hy.ran, hy.mAddr, hy.mIlen⟩
      rw [bodyEnd, writeDone_transfer hy.transfer] at hend
      simp only [hk]
      rw [if_neg (by simp)]
      exact hbefore.endsAlike hend hidle

end Sys2Proof.Machine
end

section
/-! SUPPORT. The statements about the slave event handler: the row each status takes, the rows beside the handler written as
one function, what a run leaves as it was, and a read session of a remote master. -/

namespace Sys2Proof.Machine

/-! ### The rows that access no cell (R183, R184, R189, R191 to R193) -/

/-- Settles O29: the status selects this row in either phase. -/
theorem addressMatchResetsTheCursor : Obligations.AddressMatchResetsTheCursor := by
  unfold Obligations.AddressMatchResetsTheCursor
  intro s _ hdel
  exact guarded_handlerCheck hdel rfl (.next (rowAddressMatched s))

/-- Settles O30: in AwaitingIndex the status selects this row. -/
theorem firstByteBecomesTheCursor : Obligations.FirstByteBecomesTheCursor := by
  unfold Obligations.FirstByteBecomesTheCursor
  intro s _ hdel hphase
  exact guarded_handlerCheck hdel (by rw [hphase]; rfl) (.next (rowTakeIndex s))

/-- Settles O33: in AwaitingIndex the status selects the cell the source lacks. -/
theorem nackedByteWithoutCursorIsRecorded : Obligations.NackedByteWithoutCursorIsRecorded := by
  unfold Obligations.NackedByteWithoutCursorIsRecorded
  intro s _ hdel hphase
  exact guarded_handlerCheck hdel (by rw [hphase]; rfl) (.next (rowNoCell s))

/-- Settles O35: both statuses select a row with the one effect, in either phase. -/
theorem endOfReadResetsTheCursor : Obligations.EndOfReadResetsTheCursor := by
  unfold Obligations.EndOfReadResetsTheCursor
  intro i code s hi _ hdel
  simp only [List.mem_cons, List.not_mem_nil, or_false, Prod.mk.injEq] at hi
  rcases hi with ⟨rfl, rfl⟩ | ⟨rfl, rfl⟩
  · exact guarded_handlerCheck hdel rfl (.next (rowEndRead s))
  · exact guarded_handlerCheck hdel rfl (.next (rowEndRead s))

/-- Settles O36: the status selects this row in either phase. -/
theorem stopConditionLeavesTheCursor : Obligations.StopConditionLeavesTheCursor := by
  unfold Obligations.StopConditionLeavesTheCursor
  intro s _ hdel
  exact guarded_handlerCheck hdel rfl (.next (rowStop s))

/-- R181, R193: each recovery row is the one its status selects, in either phase. -/
theorem decodeEvt_of_recoveryRow {i : Instr} {code : Byte} (hi : recoveryRow i = some code) (hwf : i.wf = true)
    (ph : ReceivePhase) : decodeEvt code ph = i := by
  cases i with
  | evtUnknown c =>
    obtain rfl := Option.some.inj hi
    exact decodeEvt_of_unknown ph (evtUnknown_wf_iff.mp hwf)
  | _ => cases hi <;> rfl

theorem exec_recoveryRow {i : Instr} {code : Byte} (hi : recoveryRow i = some code) (s : State) :
    exec i s = guarded (handlerCheck i s) (.next (rowRecover s)) := by
  cases i <;> cases hi <;> rfl

/-- Settles O37: the twelve rows share one effect, and their statuses select them. -/
theorem unrecognisedStatusRecovers : Obligations.UnrecognisedStatusRecovers := by
  unfold Obligations.UnrecognisedStatusRecovers
  intro i code s _ hi hwf hdel
  rw [exec_recoveryRow hi, guarded_handlerCheck hdel (decodeEvt_of_recoveryRow hi hwf _)]
  rfl

/-! ### A run of the handler, from its check to its one re-arm (R180 to R182) -/

/-- A run of the handler re-arms once, with the acknowledge choice it leaves in `ACK_NEXT`, and logs nothing else. -/
theorem exec_row_trace {i : Instr} {s t : State} (hi : isRow i = true) (h : exec i s = .next t) :
    ∃ stop, t.trace = .rearm t.slv.ackNext stop :: s.trace := by
  obtain ⟨f, hf, hrow⟩ := exec_isRow hi
  obtain ⟨-, rfl⟩ := guarded_next_iff.mp (hf s ▸ h)
  rcases hrow with rfl | rfl | rfl | rfl | rfl | rfl | rfl | rfl | rfl
  · exact ⟨false, rfl⟩
  · exact ⟨false, rfl⟩
  · exact ⟨false, by simp [rowStore]⟩
  · exact ⟨false, by simp [rowStoreLast]⟩
  · exact ⟨false, rfl⟩
  · exact ⟨false, by simp [rowLoad]⟩
  · exact ⟨false, rfl⟩
  · exact ⟨false, rfl⟩
  · exact ⟨true, rfl⟩

/-- A row answers a next state exactly when its delivery check passes. -/
theorem exec_row_next_iff {i : Instr} (hi : isRow i = true) (s : State) :
    (∃ t, exec i s = .next t) ↔ handlerCheck i s = none := by
  obtain ⟨f, hf, -⟩ := exec_isRow hi
  simp only [hf, guarded_next_iff, exists_and_left, exists_eq, and_true]

/-- Settles O38: the delivery check is the condition, and a run's frame and trace say the rest. -/
theorem handlerRunsExactlyWhenDelivered : Obligations.HandlerRunsExactlyWhenDelivered := by
  unfold Obligations.HandlerRunsExactlyWhenDelivered
  intro i s _ hi
  have hruns := (exec_row_next_iff hi s).trans handlerCheck_none
  refine ⟨hruns, fun t h _ => ?_⟩
  have hframe := exec_row_frame hi h
  obtain ⟨hen, -⟩ := hruns.mp ⟨t, h⟩
  exact ⟨hframe.phy, hframe.evtPending, hframe.sEn.trans hen, exec_row_trace hi h⟩

/-! ### The rows beside the handler written as one function (R198) -/

/-- The effect of the row a status and a phase select, as the table of R181 pairs them. -/
def rowEffect : StatusCode → ReceivePhase → State → State
  | .stSrSlaAck, _ => rowAddressMatched
  | .stSrDataAck, .awaitingIndex => rowTakeIndex
  | .stSrDataAck, .receivingData => rowStore
  | .stSrDataNack, .receivingData => rowStoreLast
  | .stSrDataNack, .awaitingIndex => rowNoCell
  | .stStSlaAck, _ | .stStDataAck, _ => rowLoad
  | .stStDataNack, _ | .stStLastData, _ => rowEndRead
  | .stSrStop, _ => rowStop
  | _, _ => rowRecover

/-- The row a status and a phase select has the effect the table gives it. -/
theorem exec_decodeEvt (code : Byte) (ph : ReceivePhase) (s : State) :
    exec (decodeEvt code ph) s =
      guarded (handlerCheck (decodeEvt code ph) s) (.next (rowEffect (classify code) ph s)) := by
  cases h : classify code with
  | stSrDataAck | stSrDataNack => cases ph <;> simp only [decodeEvt, h] <;> rfl
  | _ =>
    simp only [decodeEvt, h]
    rfl

/-- R187: the pseudocode of R198 asks whether the cursor is not below the bound, the row whether it is. -/
theorem handler_eq_rowStore {s : State} (hcode : classify s.slv.evtStatus = .stSrDataAck)
    (hphase : s.slv.sPhase = .receivingData) : handler s = rowStore s := by
  simp only [handler, hcode, hphase, ite_not]
  rfl

theorem handler_eq_rowLoad {s : State}
    (hcode : classify s.slv.evtStatus = .stStSlaAck ∨ classify s.slv.evtStatus = .stStDataAck) :
    handler s = rowLoad s := by
  rcases hcode with hcode | hcode <;> simp only [handler, hcode, ite_not] <;> rfl

theorem handler_eq_rowEffect (s : State) : handler s = rowEffect (classify s.slv.evtStatus) s.slv.sPhase s := by
  cases hcode : classify s.slv.evtStatus with
  | stSrDataAck =>
    cases hphase : s.slv.sPhase with
    | awaitingIndex =>
      simp only [handler, hcode, hphase]
      rfl
    | receivingData => exact handler_eq_rowStore hcode hphase
  | stSrDataNack => cases hphase : s.slv.sPhase <;> simp only [handler, hcode, hphase] <;> rfl
  | stStSlaAck => exact handler_eq_rowLoad (.inl hcode)
  | stStDataAck => exact handler_eq_rowLoad (.inr hcode)
  | _ =>
    simp only [handler, hcode]
    rfl

/-- Settles O39: the delivered event passes the check of the row it selects, whose effect is the handler's. -/
theorem rowsAreTheWholeHandler : Obligations.RowsAreTheWholeHandler := by
  unfold Obligations.RowsAreTheWholeHandler
  intro s hen hie hpend
  refine ⟨isRow_decodeEvt _ _, fun _ => ?_⟩
  rw [exec_decodeEvt, guarded_handlerCheck ⟨hen, hie, hpend, rfl⟩ rfl, handler_eq_rowEffect]

/-! ### What no run of the handler changes (R199) -/

/-- Settles O40: from the frame of a run, the one cell it may write, and the bits it records. -/
theorem handlerRunFrame : Obligations.HandlerRunFrame := by
  unfold Obligations.HandlerRunFrame
  intro i s t hi h _
  have hframe := exec_row_frame hi h
  refine ⟨hframe.cap, hframe.sEn, hframe.sAddr, hframe.evtIe, hframe.mst, hframe.opnd, hframe.clk, hframe.outbuf,
    hframe.inbuf, fun a ha => ?_, fun k hk => ?_⟩
  · rcases hframe.array with hsame | hstored
    · rw [hsame]
    · rw [hstored, Memory.read_write_other _ _ ha]
  · rw [exec_row_sfault hi h, BitVec.getLsbD_or, hk, Bool.true_or]

/-! ### A read session (R190, R195) -/

/-- A read session has gone on by `n` cells: the cursor has advanced, `ACK_NEXT` is what R190 makes it there, and the file,
the phase and the record of faults are as they were. -/
structure Reads (n : Nat) (s t : State) : Prop where
  array : t.array = s.array
  sfault : t.slv.sfault = s.slv.sfault
  cap : t.slv.cap = s.slv.cap
  index : t.slv.index.toNat = s.slv.index.toNat + n
  sPhase : t.slv.sPhase = s.slv.sPhase
  ackNext : t.slv.ackNext = if s.slv.index.toNat + n < s.slv.cap.toNat then .ack else .nack

theorem Reads.trans {m n : Nat} {s u t : State} (h : Reads m s u) (h' : Reads n u t) : Reads (m + n) s t where
  array := h'.array.trans h.array
  sfault := h'.sfault.trans h.sfault
  cap := h'.cap.trans h.cap
  index := by rw [h'.index, h.index, Nat.add_assoc]
  sPhase := h'.sPhase.trans h.sPhase
  ackNext := by rw [h'.ackNext, h.index, h.cap, Nat.add_assoc]

/-- R190: the first event of a read session and each further one load the cell at the cursor. -/
theorem TakesEvent.event_load {s : State} (hs : TakesEvent s) (first : Bool) (r : Byte) :
    event (if first then 0xA8#8 else 0xB8#8) r s =
      .next (rowLoad (latchEvent (if first then 0xA8#8 else 0xB8#8) r s)) := by
  cases first with
  | true => exact hs.event_row (row := .evtStStSlaAck) (fun _ => rfl) rfl r
  | false => exact hs.event_row (row := .evtStStDataAck) (fun _ => rfl) rfl r

theorem rowLoad_written {b : Byte} {s : State} (hin : s.slv.index.toNat < s.slv.cap.toNat)
    (hb : s.array.read s.slv.index.toNat = some b) :
    rowLoad s = rearm (transmitAck (s.slv.index + 1#8) s.slv.cap) false
      (setCursor (s.slv.index + 1#8) s.slv.sPhase { s with slv := { s.slv with txData := b } }) := by
  rw [rowLoad, loadTx_written hin hb]

/-- The cell at the cursor becomes the byte to send, and the session has gone on by one. -/
theorem TakesEvent.reads_cell {s : State} (hs : TakesEvent s) (first : Bool) (r : Byte) {b : Byte}
    (hin : s.slv.index.toNat < s.slv.cap.toNat) (hb : s.array.read s.slv.index.toNat = some b) :
    ∃ t, event (if first then 0xA8#8 else 0xB8#8) r s = .next t ∧ t.slv.txData = b ∧ Reads 1 s t := by
  refine ⟨_, hs.event_load first r, ?_⟩
  generalize (if first then 0xA8#8 else 0xB8#8) = code
  have hnext : (s.slv.index + 1#8).toNat = s.slv.index.toNat + 1 := by
    have := s.slv.cap.isLt
    bv_omega
  rw [rowLoad_written (s := latchEvent code r s) hin hb]
  exact ⟨rfl, rfl, rfl, rfl, hnext, rfl, if_congr (by rw [← hnext]; rfl) rfl rfl⟩

theorem supplied_succ {first : Bool} {r : Byte} {n : Nat} {s t : State} {bs : List Byte} {o : Outcome}
    (h : event (if first then 0xA8#8 else 0xB8#8) r s = .next t) (hrest : supplied false r n t = (bs, o)) :
    supplied first r (n + 1) s = (t.slv.txData :: bs, o) := by
  simp only [supplied, h, hrest]

/-- Cells that stand in the file from the cursor on are supplied in order (R195). -/
theorem TakesEvent.supplied_cells {s : State} (hs : TakesEvent s) (first : Bool) (r : Byte) (n : Nat)
    (cell : Nat → Byte) (hfit : s.slv.index.toNat + (n + 1) ≤ s.slv.cap.toNat)
    (hcell : ∀ k, k < n + 1 → s.array.read (s.slv.index.toNat + k) = some (cell k)) :
    ∃ t, supplied first r (n + 1) s = ((List.range (n + 1)).map cell, .next t) ∧ Reads (n + 1) s t := by
  induction n generalizing s first cell with
  | zero =>
    obtain ⟨t, ht, htx, hread⟩ := hs.reads_cell first r (by omega) (hcell 0 (by omega))
    refine ⟨t, ?_, hread⟩
    rw [supplied_succ ht rfl, htx]
    rfl
  | succ n ih =>
    obtain ⟨u, hu, htx, hread⟩ := hs.reads_cell first r (by omega) (hcell 0 (by omega))
    obtain ⟨t, ht, hrest⟩ := ih (hs.after_event hu) false (fun k => cell (k + 1))
      (by rw [hread.index, hread.cap]; omega) fun k hk => by
        rw [hread.array, hread.index, Nat.add_assoc, Nat.add_comm 1 k]
        exact hcell (k + 1) (by omega)
    refine ⟨t, ?_, Nat.add_comm 1 (n + 1) ▸ hread.trans hrest⟩
    rw [supplied_succ hu ht, htx, List.range_succ_eq_map (n := n + 1), List.map_cons, List.map_map]
    rfl

/-- Settles O59, by induction on the bytes supplied: each event reads on by one cell. -/
theorem readSessionSuppliesTheFileInOrder : Obligations.ReadSessionSuppliesTheFileInOrder := by
  unfold Obligations.ReadSessionSuppliesTheFileInOrder
  intro s r n cell _ hen hie hpend hlisten hpos hfit hcell
  obtain ⟨m, rfl⟩ := Nat.exists_eq_succ_of_ne_zero hpos.ne'
  obtain ⟨t, ht, hread⟩ := TakesEvent.supplied_cells ⟨hen, hie, hpend, hlisten⟩ true r m cell hfit hcell
  exact ⟨t, ht, hread.array, hread.sfault, hread.index, hread.sPhase, hread.ackNext⟩

end Sys2Proof.Machine
end

section
/-! SUPPORT. The statements about the system commands and the event-delivery control: each is its effect once the
foreground's check has passed. -/

namespace Sys2Proof.Machine

/-- Settles O12: past the foreground's check, by the slave role and then by the operands, in the order of R210. -/
theorem configureStoresAndForwards : Obligations.ConfigureStoresAndForwards := by
  unfold Obligations.ConfigureStoresAndForwards
  intro s _ hready
  have hfg := guarded_foregroundCheck hready
  refine ⟨fun hen => (hfg _).trans (if_pos hen), fun hoff hrate hpull => (hfg _).trans ?_⟩
  have hopnd : configureOperands s.opnd = true := Bool.and_eq_true_iff.mpr ⟨hrate, hpull⟩
  simp only [hoff, hopnd]
  rfl

/-- Settles O13: past the foreground's check and the tests of R213 before it, by the capacity. -/
theorem slaveStartBindsAndEnables : Obligations.SlaveStartBindsAndEnables := by
  unfold Obligations.SlaveStartBindsAndEnables
  intro s _ hready hdone haddr hcapw
  have hopnd : slaveStartOperands s.opnd = true := Bool.and_eq_true_iff.mpr ⟨haddr, hcapw⟩
  have hfg := guarded_foregroundCheck hready
  refine ⟨fun hzero => (hfg _).trans ?_, fun hpos => (hfg _).trans ?_⟩
  · simp [hdone, hopnd, hzero]
  · simp only [hdone, hopnd, toNat_eq_zero_iff, hpos]
    rfl

/-- Settles O14: the check passes, and no test of `S_EN` or `CFG_DONE` stands before the effect (R215). -/
theorem slaveStopResetsTheSession : Obligations.SlaveStopResetsTheSession := by
  unfold Obligations.SlaveStopResetsTheSession
  exact fun s _ hready => guarded_foregroundCheck hready _

/-- Settles O15: the check passes, and the effect is the write of `EVT_IE` alone. -/
theorem cliAndSeiWriteEvtIe : Obligations.CliAndSeiWriteEvtIe := by
  unfold Obligations.CliAndSeiWriteEvtIe
  intro s _ hready
  exact ⟨guarded_foregroundCheck hready (.next (writeEvtIe false s)),
    guarded_foregroundCheck hready (.next (writeEvtIe true s))⟩

end Sys2Proof.Machine
end

section
/-! SUPPORT. The statements about a master failure (R230 to R234): the start and the address byte that are not accepted, and
the bounded wait that runs out, each beside the answer or the poll that does not fail. -/

namespace Sys2Proof.Machine

/-! ### The start and the address byte (R150, R231, R232) -/

theorem startCompleted_confirmed {code : Byte} (s : State) (h : code = 0x08#8 ∨ code = 0x10#8) :
    startCompleted code s = sendAddress (currentStatus s) :=
  if_pos (startConfirmed_iff.mpr h)

theorem startCompleted_failed {code : Byte} (s : State) (h : ¬(code = 0x08#8 ∨ code = 0x10#8)) :
    startCompleted code s = raiseFailure .startFailed (currentStatus s) :=
  if_neg (mt startConfirmed_iff.mp h)

/-- Settles O22: the answer completes the start, and confirms it or not. -/
theorem startAnswerSendsAddressOrFails : Obligations.StartAnswerSendsAddressOrFails := by
  unfold Obligations.StartAnswerSendsAddressOrFails
  intro i code rx s _ hi hm hstep
  rw [exec_statusRow hi, completeStep_startWait hm hstep]
  refine ⟨fun hcode => ?_, fun hstart hrep => ?_⟩
  · rw [startCompleted_confirmed _ hcode]
    rfl
  · rw [startCompleted_failed _ (not_or.mpr ⟨hstart, hrep⟩)]
    rfl

/-- R150: an acknowledged address is all `M_START` waits for. -/
theorem completeStep_addressAcked_mStart {code rx : Byte} {b : BusStep} {s : State} (hm : s.mst.mState = .addrWait)
    (hstep : s.phy.step = some b) (hop : s.mst.mOp = opMStart) (hcode : code = addressAck s.mst.mDir) :
    completeStep code rx s = .next (returnResult .ok (recordAnswer b code rx s)) := by
  rw [completeStep_addrWait hm hstep]
  exact (if_pos (addressAcked_iff.mpr hcode)).trans (if_pos hop)

/-- Settles O23: the address is rejected, or it is acknowledged and `M_START` ends. -/
theorem addressAnswerReleasesTheBusOrSucceeds : Obligations.AddressAnswerReleasesTheBusOrSucceeds := by
  unfold Obligations.AddressAnswerReleasesTheBusOrSucceeds
  intro i code rx b s _ hi hm hstep
  rw [exec_statusRow hi]
  exact ⟨fun hcode => completeStep_addressRejected hm hstep hcode,
    fun hcode hop => completeStep_addressAcked_mStart hm hstep hop hcode⟩

/-! ### The bounded wait (R234) -/

theorem step_idle_cons {s : State} {rest : List Turn} (h : s.script = .idle :: rest) :
    step s = .next (poll { s with script := rest }) := by
  simp only [step, h, turnWord]

theorem poll_of_bound_reached {s : State} {n : Nat} (hrun : s.mst.mState ≠ .idle) (hlimit : s.waitLimit = some n)
    (hn : n ≤ s.phy.polls + 1) :
    poll s = raiseFailure .timeout { s with phy := { s.phy with step := none, polls := 0 } } := by
  simp only [poll, hlimit, if_neg hrun, if_pos hn]

theorem poll_of_below_bound {s : State} {n : Nat} (hrun : s.mst.mState ≠ .idle) (hlimit : s.waitLimit = some n)
    (hn : s.phy.polls + 1 < n) : poll s = { s with phy := { s.phy with polls := s.phy.polls + 1 } } := by
  simp only [poll, hlimit, if_neg hrun, if_neg hn.not_ge]

/-- Settles O10: the idle turn is a poll, which reaches the bound or not. -/
theorem boundedWaitEndsWithTimeout : Obligations.BoundedWaitEndsWithTimeout := by
  unfold Obligations.BoundedWaitEndsWithTimeout
  intro s n rest _ hrun hlimit hscript
  rw [step_idle_cons hscript]
  exact ⟨fun hn => congrArg _ (poll_of_bound_reached (s := { s with script := rest }) hrun hlimit hn),
    fun hn => congrArg _ (poll_of_below_bound (s := { s with script := rest }) hrun hlimit hn)⟩

end Sys2Proof.Machine
end

section
/-! SUPPORT. The statements about reset (R260): what a host read meets and what the memories hold there, and the invariant of
a block at rest. -/

namespace Sys2Proof.Machine

/-! ### The state right after reset -/

theorem reset_foregroundReady : ForegroundReady State.reset := ⟨rfl, rfl⟩

theorem reset_noFaultRecorded : NoFaultRecorded State.reset := rfl

/-- R260: an unspecified cell holds no byte. -/
theorem reset_memories_unwritten (a : Nat) :
    State.reset.array.read a = none ∧ State.reset.outbuf.read a = none ∧ State.reset.inbuf.read a = none :=
  ⟨rfl, rfl, rfl⟩

/-- R24: no command has returned. -/
theorem reset_hostRd_result : exec (.hostRd .result) State.reset = .fault (.unwrittenRegister .result) :=
  exec_hostRd_error reset_foregroundReady rfl

/-- R219: no `S_START` has given `CAP` a value. -/
theorem reset_hostRd_cap : exec (.hostRd .cap) State.reset = .fault (.unwrittenRegister .cap) :=
  exec_hostRd_error reset_foregroundReady rfl

/-- Settles O1: the registers as R260 lists them, then the cells, the operands and the two reads that fault. -/
theorem resetLeavesTheBlockIdle : Obligations.ResetLeavesTheBlockIdle := by
  unfold Obligations.ResetLeavesTheBlockIdle
  exact ⟨rfl, rfl, rfl, rfl, rfl, rfl, rfl, rfl, rfl, rfl, reset_noFaultRecorded, reset_memories_unwritten,
    rfl, rfl, rfl, rfl, rfl, rfl, reset_hostRd_result, reset_hostRd_cap⟩

/-! ### A block at rest -/

/-- Canonical memories are all the invariant asks of a block in which no command runs and the slave role is off. -/
theorem Inv.of_at_rest {s : State} (ha : s.array.wf = true) (ho : s.outbuf.wf = true) (hi : s.inbuf.wf = true)
    (hidle : s.mst.mState = .idle) (hbusy : s.mst.mBusy = false) (hoff : s.slv.sEn = false)
    (hpend : s.slv.evtPending = false) : Inv s where
  array_wf := ha
  outbuf_wf := ho
  inbuf_wf := hi
  busy := by simp [hidle, hbusy]
  sequenced := by simp [Sequenced, hidle]
  one_role _ := hidle
  configured := by simp [hidle, hoff]
  capacity := by simp [hoff]
  pending := by simp [hpend]

theorem reset_inv : Inv State.reset :=
  .of_at_rest reset_array_wf reset_outbuf_wf reset_inbuf_wf rfl rfl rfl rfl

/-- Settles O47: the block is at rest after reset, and `SFAULT` is clear. -/
theorem resetMeetsTheInvariant : Obligations.ResetMeetsTheInvariant := by
  unfold Obligations.ResetMeetsTheInvariant
  exact ⟨reset_noFaultRecorded.strict, reset_inv⟩

end Sys2Proof.Machine
end

section
/-! SUPPORT. The statement about the step itself: the turn's word, decoded in the slave's phase, is what the step runs
(assumption 4). -/

namespace Sys2Proof.Machine

/-! ### A turn that brings a word -/

/-- R106: a delivery brings the latched status, whatever the rest of the state is. -/
theorem turnWord_deliver (s : State) : turnWord .deliver s = some ⟨.evt, s.slv.evtStatus.setWidth 32, 0#16⟩ := rfl

section
variable {s : State} {turn : Turn} {rest : List Turn} {w : InWord}

theorem step_of_decode_ok {i : Instr} (hscript : s.script = turn :: rest) (hword : turnWord turn s = some w)
    (hdec : decode s.slv.sPhase w = .ok i) : step s = exec i { s with script := rest } := by
  simp only [step, hscript, hword, hdec]

theorem step_of_decode_error {e : DecodeError} (hscript : s.script = turn :: rest) (hword : turnWord turn s = some w)
    (hdec : decode s.slv.sPhase w = .error e) : step s = .refused (.undecodable e) := by
  simp only [step, hscript, hword, hdec]

end

/-- Settles O8: by what the turn's word decodes to; a delivery is the first clause at the word of the latch. -/
theorem stepRunsTheDecodedInstruction : Obligations.StepRunsTheDecodedInstruction := by
  unfold Obligations.StepRunsTheDecodedInstruction
  exact ⟨fun _ _ _ _ _ hscript hword hdec => step_of_decode_ok hscript hword hdec,
    fun _ _ _ _ _ hscript hword hdec => step_of_decode_error hscript hword hdec,
    fun s _ _ hscript hdec => step_of_decode_ok hscript (turnWord_deliver s) hdec⟩

end Sys2Proof.Machine
end
